-- ==== Sys2Proof/Word.lean ====
section
/-! DEFINITION. The word types of the MPE core: the widths that R6 and R100 fix. -/

namespace Sys2Proof

/-- A register, bus, memory word or macro program counter: 16 bits (R6, R30, R70). -/
abbrev Word := BitVec 16

/-- A control word: 75 bits, bit 0 the least significant (R9, R100). -/
abbrev ControlWord := BitVec 75

/-- The index of a general register (R109). -/
abbrev RegIx := BitVec 4

/-- A 4-bit flag value or status register, OVR in bit 3, C in bit 2, N in bit 1, Z in bit 0 (R33). -/
abbrev Status := BitVec 4

/-- A micro-address as a field holds it: 12 bits (R101, R79). -/
abbrev MicroAddr := BitVec 12

end Sys2Proof
end

