-- ==== Sys2Proof/Config.lean ====
section
/-! DEFINITION. The fixed parameters of the hardware (R6, R7). The spec leaves no value free at run time (R457),
so this file declares no opaque constant. -/

namespace Sys2Proof.Config

/-- `STACK_DEPTH` (R6, R41). -/
def stackDepth : Nat := 5

/-- `UADDR_SPACE`: the control store's addresses are 0..4095 (R6, R78). -/
def microSpace : Nat := 4096

/-- `MEM_WORDS`: the data memory's word addresses are 0..65535 (R6, R70). -/
def memWords : Nat := 65536

/-- The default of `STEP_LIMIT` (R7). -/
def defaultStepLimit : Nat := 1000000

/-- What a word of data memory that nothing has written and no image sets reads as (R70, R73). -/
def unlistedWord : Word := 0

/-- The halt sentinel 2^75 - 1 (R110). -/
def haltWord : ControlWord := BitVec.allOnes 75

/-- The macro word the assembler appends to every program, 0xFF00 (R391, R394). -/
def macroHaltWord : Word := 0xFF00

end Sys2Proof.Config
end

