-- ==== Sys2Proof/Syntax.lean ====
section
/-! DEFINITION. The syntax of the MPE core: the seventeen fields of a control word (R101) and `Instr`, one constructor
for each row of spec/opcode_table.json.

A row of the table is one value of one field of the 75-bit horizontal control word (a MICRO-ORDER), the halt sentinel,
or one 16-bit macro word. A control word is the bundle of the micro-orders of its fields; one microcycle runs
all of them in the order of R320 to R339 (log 1). -/

namespace Sys2Proof

/-- The seventeen fields of a control word (R101, R150). The defaults are R115's: a field that is not named is 0. -/
structure Fields where
  /-- memory write enable, bit 0 -/
  mwe : Bool := false
  /-- load the instruction register, bit 1 -/
  ir : Bool := false
  /-- program-counter control, bits 5:2 -/
  ic : BitVec 4 := 0
  /-- branch address, bits 17:6 -/
  bar : BitVec 12 := 0
  /-- controller instruction, bits 21:18 -/
  ci : BitVec 4 := 0
  /-- condition-code enable, bit 22 -/
  ccen : Bool := false
  /-- macro status clock-enable `srM`, bit 23 -/
  srMacro : Bool := false
  /-- micro status clock-enable `srm`, bit 24 -/
  srMicro : Bool := false
  /-- status-unit field, bits 36:25 -/
  sscu : BitVec 12 := 0
  /-- output routing, bits 38:37 -/
  yMux : BitVec 2 := 0
  /-- operand B selection, bit 39 -/
  bMux : Bool := false
  /-- explicit operand-B index, bits 43:40 -/
  rbAddr : BitVec 4 := 0
  /-- operand A selection, bit 44 -/
  aMux : Bool := false
  /-- explicit operand-A index, bits 48:45 -/
  raAddr : BitVec 4 := 0
  /-- ALU instruction, bits 57:49 -/
  alu : BitVec 9 := 0
  /-- immediate literal, bits 73:58 -/
  constant : BitVec 16 := 0
  /-- D input selection, bit 74 -/
  kMux : Bool := false
  deriving DecidableEq, Repr

/-- What a control word decodes to (R150): the halt sentinel or the seventeen fields. -/
inductive Decoded
  /-- the word 2^75 - 1 (R110) -/
  | halt
  /-- every other word -/
  | fields (f : Fields)
  deriving DecidableEq, Repr

/-- The rows of spec/opcode_table.json: the halt sentinel, the micro-orders (one for each field value, with the operand
fields its rule uses), and the macro words (with both register fields, named by the form or not). -/
inductive Instr
  /-- `HALT`, R110. -/
  | halt
  /-- `ci.RESET`, R286. -/
  | ciReset
  /-- `ci.CJS`, R287. -/
  | ciCjs (bar : BitVec 12) (ccen : Bool)
  /-- `ci.JMAP`, R288. -/
  | ciJmap
  /-- `ci.CJP`, R289. -/
  | ciCjp (bar : BitVec 12) (ccen : Bool)
  /-- `ci.PUSH`, R290. -/
  | ciPush (bar : BitVec 12)
  /-- `ci.CRTN`, R291. -/
  | ciCrtn (ccen : Bool)
  /-- `ci.CJPP`, R292. -/
  | ciCjpp (bar : BitVec 12) (ccen : Bool)
  /-- `ci.CONT`, R293. -/
  | ciCont
  /-- `ci.INVALID_0101`, R294. -/
  | ciInvalid0101
  /-- `ci.INVALID_0110`, R294. -/
  | ciInvalid0110
  /-- `ci.INVALID_0111`, R294. -/
  | ciInvalid0111
  /-- `ci.INVALID_1000`, R294. -/
  | ciInvalid1000
  /-- `ci.INVALID_1001`, R294. -/
  | ciInvalid1001
  /-- `ci.INVALID_1100`, R294. -/
  | ciInvalid1100
  /-- `ci.INVALID_1101`, R294. -/
  | ciInvalid1101
  /-- `ci.INVALID_1111`, R294. -/
  | ciInvalid1111
  /-- `IC.NONE`, R324. -/
  | icNone
  /-- `IC.ABUS_PC`, R325. -/
  | icAbusPc
  /-- `IC.PC_INC`, R326. -/
  | icPcInc
  /-- `IC.DBUS_PC`, R327. -/
  | icDbusPc
  /-- `IC.PC_DBUS`, R328. -/
  | icPcDbus
  /-- `IC.MALFORMED_0011`, R323. -/
  | icMalformed0011
  /-- `IC.MALFORMED_0101`, R323. -/
  | icMalformed0101
  /-- `IC.MALFORMED_0110`, R323. -/
  | icMalformed0110
  /-- `IC.MALFORMED_0111`, R323. -/
  | icMalformed0111
  /-- `IC.MALFORMED_1001`, R323. -/
  | icMalformed1001
  /-- `IC.MALFORMED_1010`, R323. -/
  | icMalformed1010
  /-- `IC.MALFORMED_1011`, R323. -/
  | icMalformed1011
  /-- `IC.MALFORMED_1100`, R323. -/
  | icMalformed1100
  /-- `IC.MALFORMED_1101`, R323. -/
  | icMalformed1101
  /-- `IC.MALFORMED_1110`, R323. -/
  | icMalformed1110
  /-- `IC.MALFORMED_1111`, R323. -/
  | icMalformed1111
  /-- `ds.AQ`, R182. -/
  | dsAq
  /-- `ds.AB`, R183. -/
  | dsAb
  /-- `ds.ZQ`, R184. -/
  | dsZq
  /-- `ds.ZB`, R185. -/
  | dsZb
  /-- `ds.ZA`, R186. -/
  | dsZa
  /-- `ds.DA`, R187. -/
  | dsDa
  /-- `ds.DQ`, R188. -/
  | dsDq
  /-- `ds.DZ`, R189. -/
  | dsDz
  /-- `op.ADD`, R190. -/
  | opAdd
  /-- `op.SUBR`, R191. -/
  | opSubr
  /-- `op.SUBS`, R192. -/
  | opSubs
  /-- `op.OR`, R193. -/
  | opOr
  /-- `op.AND`, R194. -/
  | opAnd
  /-- `op.NOTRS`, R195. -/
  | opNotrs
  /-- `op.EXOR`, R196. -/
  | opExor
  /-- `op.EXNOR`, R197. -/
  | opExnor
  /-- `rs.NONE`, R200. -/
  | rsNone
  /-- `rs.ACC`, R201. -/
  | rsAcc
  /-- `rs.REG_PASS`, R202. -/
  | rsRegPass
  /-- `rs.REG`, R203. -/
  | rsReg
  /-- `rs.ILLEGAL_4`, R204. -/
  | rsIllegal4
  /-- `rs.ILLEGAL_5`, R204. -/
  | rsIllegal5
  /-- `rs.ILLEGAL_6`, R204. -/
  | rsIllegal6
  /-- `rs.ILLEGAL_7`, R204. -/
  | rsIllegal7
  /-- `y_mux.NONE`, R332. -/
  | yMuxNone
  /-- `y_mux.ABUS`, R332. -/
  | yMuxAbus
  /-- `y_mux.DBUS`, R332. -/
  | yMuxDbus
  /-- `y_mux.ABUS_DBUS`, R332. -/
  | yMuxAbusDbus
  /-- `sel.MICRO`, R243. -/
  | selMicro
  /-- `sel.MACRO`, R244. -/
  | selMacro
  /-- `sel.NONE`, R245. -/
  | selNone
  /-- `sel.ILLEGAL`, R242. -/
  | selIllegal
  /-- `cop.NZ`, R246. -/
  | copNz
  /-- `cop.Z`, R247. -/
  | copZ
  /-- `cop.NC`, R248. -/
  | copNc
  /-- `cop.C`, R249. -/
  | copC
  /-- `cop.NC_AND_NZ`, R250. -/
  | copNcAndNz
  /-- `cop.C_OR_Z`, R251. -/
  | copCOrZ
  /-- `cop.OTHER_00`, R252. -/
  | copOther00
  /-- `cop.OTHER_01`, R252. -/
  | copOther01
  /-- `cop.OTHER_02`, R252. -/
  | copOther02
  /-- `cop.OTHER_03`, R252. -/
  | copOther03
  /-- `cop.OTHER_06`, R252. -/
  | copOther06
  /-- `cop.OTHER_07`, R252. -/
  | copOther07
  /-- `cop.OTHER_08`, R252. -/
  | copOther08
  /-- `cop.OTHER_09`, R252. -/
  | copOther09
  /-- `cop.OTHER_0E`, R252. -/
  | copOther0E
  /-- `cop.OTHER_0F`, R252. -/
  | copOther0F
  /-- `cop.OTHER_10`, R252. -/
  | copOther10
  /-- `cop.OTHER_11`, R252. -/
  | copOther11
  /-- `cop.OTHER_12`, R252. -/
  | copOther12
  /-- `cop.OTHER_13`, R252. -/
  | copOther13
  /-- `cop.OTHER_14`, R252. -/
  | copOther14
  /-- `cop.OTHER_15`, R252. -/
  | copOther15
  /-- `cop.OTHER_16`, R252. -/
  | copOther16
  /-- `cop.OTHER_17`, R252. -/
  | copOther17
  /-- `cop.OTHER_18`, R252. -/
  | copOther18
  /-- `cop.OTHER_19`, R252. -/
  | copOther19
  /-- `cop.OTHER_1A`, R252. -/
  | copOther1A
  /-- `cop.OTHER_1B`, R252. -/
  | copOther1B
  /-- `cop.OTHER_1C`, R252. -/
  | copOther1C
  /-- `cop.OTHER_1D`, R252. -/
  | copOther1D
  /-- `cop.OTHER_1E`, R252. -/
  | copOther1E
  /-- `cop.OTHER_1F`, R252. -/
  | copOther1F
  /-- `cop.OTHER_20`, R252. -/
  | copOther20
  /-- `cop.OTHER_21`, R252. -/
  | copOther21
  /-- `cop.OTHER_22`, R252. -/
  | copOther22
  /-- `cop.OTHER_23`, R252. -/
  | copOther23
  /-- `cop.OTHER_24`, R252. -/
  | copOther24
  /-- `cop.OTHER_25`, R252. -/
  | copOther25
  /-- `cop.OTHER_26`, R252. -/
  | copOther26
  /-- `cop.OTHER_27`, R252. -/
  | copOther27
  /-- `cop.OTHER_28`, R252. -/
  | copOther28
  /-- `cop.OTHER_29`, R252. -/
  | copOther29
  /-- `cop.OTHER_2A`, R252. -/
  | copOther2A
  /-- `cop.OTHER_2B`, R252. -/
  | copOther2B
  /-- `cop.OTHER_2C`, R252. -/
  | copOther2C
  /-- `cop.OTHER_2D`, R252. -/
  | copOther2D
  /-- `cop.OTHER_2E`, R252. -/
  | copOther2E
  /-- `cop.OTHER_2F`, R252. -/
  | copOther2F
  /-- `cop.OTHER_30`, R252. -/
  | copOther30
  /-- `cop.OTHER_31`, R252. -/
  | copOther31
  /-- `cop.OTHER_32`, R252. -/
  | copOther32
  /-- `cop.OTHER_33`, R252. -/
  | copOther33
  /-- `cop.OTHER_34`, R252. -/
  | copOther34
  /-- `cop.OTHER_35`, R252. -/
  | copOther35
  /-- `cop.OTHER_36`, R252. -/
  | copOther36
  /-- `cop.OTHER_37`, R252. -/
  | copOther37
  /-- `cop.OTHER_38`, R252. -/
  | copOther38
  /-- `cop.OTHER_39`, R252. -/
  | copOther39
  /-- `cop.OTHER_3A`, R252. -/
  | copOther3A
  /-- `cop.OTHER_3B`, R252. -/
  | copOther3B
  /-- `cop.OTHER_3C`, R252. -/
  | copOther3C
  /-- `cop.OTHER_3D`, R252. -/
  | copOther3D
  /-- `cop.OTHER_3E`, R252. -/
  | copOther3E
  /-- `cop.OTHER_3F`, R252. -/
  | copOther3F
  /-- `mwe.READ`, R338. -/
  | mweRead
  /-- `mwe.WRITE`, R338. -/
  | mweWrite
  /-- `ir.LOAD`, R334. -/
  | irLoad
  /-- `srM.LATCH`, R254. -/
  | srMacroLatch
  /-- `srm.LATCH`, R255. -/
  | srMicroLatch
  /-- `a_mux.FIELD`, R329. -/
  | aMuxField (ra : RegIx)
  /-- `a_mux.IR`, R329. -/
  | aMuxIr
  /-- `b_mux.FIELD`, R329. -/
  | bMuxField (rb : RegIx)
  /-- `b_mux.IR`, R329. -/
  | bMuxIr
  /-- `k_mux.CONST`, R330. -/
  | kMuxConst (k : Word)
  /-- `k_mux.DBUS`, R330. -/
  | kMuxDbus
  /-- `sscu.UNREAD_9_6`, R104. -/
  | sscuUnread (unread : BitVec 4)
  /-- `(no instruction) 0x00`, R371. -/
  | macNoInstruction (regA : RegIx) (regB : RegIx)
  /-- `MOV regA,regB`, R372. -/
  | macMovRegReg (regA : RegIx) (regB : RegIx)
  /-- `MOV const,regB`, R373. -/
  | macMovConstReg (regA : RegIx) (regB : RegIx)
  /-- `MOV [regA],regB`, R374. -/
  | macMovLoad (regA : RegIx) (regB : RegIx)
  /-- `MOV regA,[regB]`, R375. -/
  | macMovStore (regA : RegIx) (regB : RegIx)
  /-- `ADD regA,regB`, R376. -/
  | macAdd (regA : RegIx) (regB : RegIx)
  /-- `SUB regA,regB`, R377. -/
  | macSub (regA : RegIx) (regB : RegIx)
  /-- `CMP regA,regB`, R378. -/
  | macCmp (regA : RegIx) (regB : RegIx)
  /-- `XOR regA,regB`, R379. -/
  | macXor (regA : RegIx) (regB : RegIx)
  /-- `TEST regA,regB`, R380. -/
  | macTest (regA : RegIx) (regB : RegIx)
  /-- `JMP regB`, R381. -/
  | macJmpReg (regA : RegIx) (regB : RegIx)
  /-- `JMP const`, R382. -/
  | macJmpConst (regA : RegIx) (regB : RegIx)
  /-- `JZ regB`, R383. -/
  | macJzReg (regA : RegIx) (regB : RegIx)
  /-- `JZ const`, R384. -/
  | macJzConst (regA : RegIx) (regB : RegIx)
  /-- `JL regB`, R385. -/
  | macJlReg (regA : RegIx) (regB : RegIx)
  /-- `JL const`, R386. -/
  | macJlConst (regA : RegIx) (regB : RegIx)
  /-- `JLE regB`, R387. -/
  | macJleReg (regA : RegIx) (regB : RegIx)
  /-- `JLE const`, R388. -/
  | macJleConst (regA : RegIx) (regB : RegIx)
  /-- `WTF`, R389. -/
  | macWtf (regA : RegIx) (regB : RegIx)
  /-- `UPP regA,regB`, R390. -/
  | macUpp (regA : RegIx) (regB : RegIx)
  /-- `HALT (macro)`, R391. -/
  | macHalt
  deriving DecidableEq, Repr

/-- The field of the control word, or the macro word, that a row belongs to (the table's "format"). -/
inductive Family
  | halt | ci | ic | ds | op | rs | yMux | sel | cop | mwe | ir | srMacro | srMicro | aMux | bMux | kMux | unread | macroWord
  deriving DecidableEq, Repr

/-- The bits a row stands for: a 75-bit control word, or a 16-bit macro word. -/
inductive Encoded
  /-- a control word (R100) -/
  | control (w : ControlWord)
  /-- a macro word (R113) -/
  | macroWord (w : Word)
  deriving DecidableEq, Repr

end Sys2Proof
end

