-- ==== Sys2Proof/WellFormed.lean ====
section
/-! DEFINITION. Which terms of `Instr` the spec's encodings write. A micro-order's operands fill their fields (R109: no
index value is reserved; R108: any immediate), so every micro-order is well formed. A macro word's form names some of
its two register fields, and "Where a form names no `regA` or no `regB`, that field is written as 0" (45_macro_interface.md
section 2, decision D19; log 20). Opcode 0x00 has no form (R371), and its low byte may be anything. -/

namespace Sys2Proof

/-- The check, by row (R371 to R391). -/
def Instr.wellFormed : Instr → Bool
  | .halt => true
  | .ciReset => true
  | .ciCjs _ _ => true
  | .ciJmap => true
  | .ciCjp _ _ => true
  | .ciPush _ => true
  | .ciCrtn _ => true
  | .ciCjpp _ _ => true
  | .ciCont => true
  | .ciInvalid0101 => true
  | .ciInvalid0110 => true
  | .ciInvalid0111 => true
  | .ciInvalid1000 => true
  | .ciInvalid1001 => true
  | .ciInvalid1100 => true
  | .ciInvalid1101 => true
  | .ciInvalid1111 => true
  | .icNone => true
  | .icAbusPc => true
  | .icPcInc => true
  | .icDbusPc => true
  | .icPcDbus => true
  | .icMalformed0011 => true
  | .icMalformed0101 => true
  | .icMalformed0110 => true
  | .icMalformed0111 => true
  | .icMalformed1001 => true
  | .icMalformed1010 => true
  | .icMalformed1011 => true
  | .icMalformed1100 => true
  | .icMalformed1101 => true
  | .icMalformed1110 => true
  | .icMalformed1111 => true
  | .dsAq => true
  | .dsAb => true
  | .dsZq => true
  | .dsZb => true
  | .dsZa => true
  | .dsDa => true
  | .dsDq => true
  | .dsDz => true
  | .opAdd => true
  | .opSubr => true
  | .opSubs => true
  | .opOr => true
  | .opAnd => true
  | .opNotrs => true
  | .opExor => true
  | .opExnor => true
  | .rsNone => true
  | .rsAcc => true
  | .rsRegPass => true
  | .rsReg => true
  | .rsIllegal4 => true
  | .rsIllegal5 => true
  | .rsIllegal6 => true
  | .rsIllegal7 => true
  | .yMuxNone => true
  | .yMuxAbus => true
  | .yMuxDbus => true
  | .yMuxAbusDbus => true
  | .selMicro => true
  | .selMacro => true
  | .selNone => true
  | .selIllegal => true
  | .copNz => true
  | .copZ => true
  | .copNc => true
  | .copC => true
  | .copNcAndNz => true
  | .copCOrZ => true
  | .copOther00 => true
  | .copOther01 => true
  | .copOther02 => true
  | .copOther03 => true
  | .copOther06 => true
  | .copOther07 => true
  | .copOther08 => true
  | .copOther09 => true
  | .copOther0E => true
  | .copOther0F => true
  | .copOther10 => true
  | .copOther11 => true
  | .copOther12 => true
  | .copOther13 => true
  | .copOther14 => true
  | .copOther15 => true
  | .copOther16 => true
  | .copOther17 => true
  | .copOther18 => true
  | .copOther19 => true
  | .copOther1A => true
  | .copOther1B => true
  | .copOther1C => true
  | .copOther1D => true
  | .copOther1E => true
  | .copOther1F => true
  | .copOther20 => true
  | .copOther21 => true
  | .copOther22 => true
  | .copOther23 => true
  | .copOther24 => true
  | .copOther25 => true
  | .copOther26 => true
  | .copOther27 => true
  | .copOther28 => true
  | .copOther29 => true
  | .copOther2A => true
  | .copOther2B => true
  | .copOther2C => true
  | .copOther2D => true
  | .copOther2E => true
  | .copOther2F => true
  | .copOther30 => true
  | .copOther31 => true
  | .copOther32 => true
  | .copOther33 => true
  | .copOther34 => true
  | .copOther35 => true
  | .copOther36 => true
  | .copOther37 => true
  | .copOther38 => true
  | .copOther39 => true
  | .copOther3A => true
  | .copOther3B => true
  | .copOther3C => true
  | .copOther3D => true
  | .copOther3E => true
  | .copOther3F => true
  | .mweRead => true
  | .mweWrite => true
  | .irLoad => true
  | .srMacroLatch => true
  | .srMicroLatch => true
  | .aMuxField _ => true
  | .aMuxIr => true
  | .bMuxField _ => true
  | .bMuxIr => true
  | .kMuxConst _ => true
  | .kMuxDbus => true
  | .sscuUnread _ => true
  | .macNoInstruction _ _ => true
  | .macMovRegReg _ _ => true
  | .macMovConstReg regA _ => decide (regA = 0)
  | .macMovLoad _ _ => true
  | .macMovStore _ _ => true
  | .macAdd _ _ => true
  | .macSub _ _ => true
  | .macCmp _ _ => true
  | .macXor _ _ => true
  | .macTest _ _ => true
  | .macJmpReg regA _ => decide (regA = 0)
  | .macJmpConst regA regB => decide (regA = 0 ∧ regB = 0)
  | .macJzReg regA _ => decide (regA = 0)
  | .macJzConst regA regB => decide (regA = 0 ∧ regB = 0)
  | .macJlReg regA _ => decide (regA = 0)
  | .macJlConst regA regB => decide (regA = 0 ∧ regB = 0)
  | .macJleReg regA _ => decide (regA = 0)
  | .macJleConst regA regB => decide (regA = 0 ∧ regB = 0)
  | .macWtf regA regB => decide (regA = 0 ∧ regB = 0)
  | .macUpp _ _ => true
  | .macHalt => true

/-- The row is written as its form writes it. -/
abbrev WellFormed (i : Instr) : Prop := i.wellFormed = true

end Sys2Proof
end

