-- ==== Sys2Proof/Decode.lean ====
section
/-! DEFINITION. The microinstruction decoder (40_decoder.md), the rows that a decoded word holds and the order in which a
microcycle runs them, the macro word's reading, and AFTER them the encoders, written from the same tables
(30_encoding.md, 45_macro_interface.md). -/

namespace Sys2Proof

/-! ## The control word -/

/-- Why a number is not read: the decoder's refusals, by name. -/
inductive DecodeError
  /-- a control word does not fit in 75 bits: `OutOfRange` (R151, R406) -/
  | outOfRange
  /-- a macro opcode outside the table of 45_macro_interface.md (R391: 0x14..0xFE, and 0xFF with a nonzero register
  field, which is not the halt word) -/
  | unlistedMacroOpcode (opcode : BitVec 8)
  /-- a macro program ends before the literal word that its last form needs (R392) -/
  | missingLiteral
  deriving DecidableEq, Repr

/-- The seventeen fields of R101, cut out as R150's pseudocode does. -/
def extractFields (w : ControlWord) : Fields where
  mwe := w.getLsbD 0
  ir := w.getLsbD 1
  ic := w.extractLsb' 2 4
  bar := w.extractLsb' 6 12
  ci := w.extractLsb' 18 4
  ccen := w.getLsbD 22
  srMacro := w.getLsbD 23
  srMicro := w.getLsbD 24
  sscu := w.extractLsb' 25 12
  yMux := w.extractLsb' 37 2
  bMux := w.getLsbD 39
  rbAddr := w.extractLsb' 40 4
  aMux := w.getLsbD 44
  raAddr := w.extractLsb' 45 4
  alu := w.extractLsb' 49 9
  constant := w.extractLsb' 58 16
  kMux := w.getLsbD 74

/-- Decode (R150): the halt sentinel is recognised before any field; every other word is its fields (R116). -/
def decodeWord (w : ControlWord) : Decoded :=
  if w = Config.haltWord then .halt else .fields (extractFields w)

/-- A number read as a control word: refused with `outOfRange` when it does not fit (R151). -/
def decodeNat (n : Nat) : Except DecodeError Decoded :=
  if n < 2 ^ 75 then .ok (decodeWord (BitVec.ofNat 75 n)) else .error .outOfRange

/-! ## Sub-fields (R103, R104) -/

/-- `ds = alu[2:0]` (R181). -/
def Fields.ds (f : Fields) : BitVec 3 := f.alu.extractLsb' 0 3

/-- `op = alu[5:3]` (R181). -/
def Fields.op (f : Fields) : BitVec 3 := f.alu.extractLsb' 3 3

/-- `rs = alu[8:6]` (R181). -/
def Fields.rs (f : Fields) : BitVec 3 := f.alu.extractLsb' 6 3

/-- `cop = sscu[5:0]` (R242). -/
def Fields.cop (f : Fields) : BitVec 6 := f.sscu.extractLsb' 0 6

/-- `sscu[9:6]`, which no rule reads (R104). -/
def Fields.unread (f : Fields) : BitVec 4 := f.sscu.extractLsb' 6 4

/-- `sel = sscu[11:10]` (R242). -/
def Fields.sel (f : Fields) : BitVec 2 := f.sscu.extractLsb' 10 2

/-! ## The row of each field value -/

/-- The row of a value of `ic` (R105; all sixteen values have a row). -/
def icOrder (v : BitVec 4) : Instr :=
  match v.toNat with
  | 0 => .icNone
  | 1 => .icAbusPc
  | 2 => .icPcInc
  | 3 => .icMalformed0011
  | 4 => .icDbusPc
  | 5 => .icMalformed0101
  | 6 => .icMalformed0110
  | 7 => .icMalformed0111
  | 8 => .icPcDbus
  | 9 => .icMalformed1001
  | 10 => .icMalformed1010
  | 11 => .icMalformed1011
  | 12 => .icMalformed1100
  | 13 => .icMalformed1101
  | 14 => .icMalformed1110
  | _ => .icMalformed1111

/-- The row of a value of `ci` (R107; all sixteen values have a row). -/
def ciOrder (v : BitVec 4) (bar : BitVec 12) (ccen : Bool) : Instr :=
  match v.toNat with
  | 0 => .ciReset
  | 1 => .ciCjs bar ccen
  | 2 => .ciJmap
  | 3 => .ciCjp bar ccen
  | 4 => .ciPush bar
  | 5 => .ciInvalid0101
  | 6 => .ciInvalid0110
  | 7 => .ciInvalid0111
  | 8 => .ciInvalid1000
  | 9 => .ciInvalid1001
  | 10 => .ciCrtn ccen
  | 11 => .ciCjpp bar ccen
  | 12 => .ciInvalid1100
  | 13 => .ciInvalid1101
  | 14 => .ciCont
  | _ => .ciInvalid1111

/-- The row of a value of `ds` (R182 to R189). -/
def dsOrder (v : BitVec 3) : Instr :=
  match v.toNat with
  | 0 => .dsAq
  | 1 => .dsAb
  | 2 => .dsZq
  | 3 => .dsZb
  | 4 => .dsZa
  | 5 => .dsDa
  | 6 => .dsDq
  | _ => .dsDz

/-- The row of a value of `op` (R190 to R197). -/
def opOrder (v : BitVec 3) : Instr :=
  match v.toNat with
  | 0 => .opAdd
  | 1 => .opSubr
  | 2 => .opSubs
  | 3 => .opOr
  | 4 => .opAnd
  | 5 => .opNotrs
  | 6 => .opExor
  | _ => .opExnor

/-- The row of a value of `rs` (R200 to R204). -/
def rsOrder (v : BitVec 3) : Instr :=
  match v.toNat with
  | 0 => .rsNone
  | 1 => .rsAcc
  | 2 => .rsRegPass
  | 3 => .rsReg
  | 4 => .rsIllegal4
  | 5 => .rsIllegal5
  | 6 => .rsIllegal6
  | _ => .rsIllegal7

/-- The row of a value of `yMux` (R106, R332). -/
def yMuxOrder (v : BitVec 2) : Instr :=
  match v.toNat with
  | 0 => .yMuxNone
  | 1 => .yMuxAbus
  | 2 => .yMuxDbus
  | _ => .yMuxAbusDbus

/-- The row of a value of `sel` (R242 to R245). -/
def selOrder (v : BitVec 2) : Instr :=
  match v.toNat with
  | 0 => .selNone
  | 1 => .selMacro
  | 2 => .selMicro
  | _ => .selIllegal

/-- The row of a value of `cop` (R246 to R252; every value outside the six tested ones has a row of its own). -/
def copOrder (v : BitVec 6) : Instr :=
  match v.toNat with
  | 0 => .copOther00
  | 1 => .copOther01
  | 2 => .copOther02
  | 3 => .copOther03
  | 4 => .copNz
  | 5 => .copZ
  | 6 => .copOther06
  | 7 => .copOther07
  | 8 => .copOther08
  | 9 => .copOther09
  | 10 => .copNc
  | 11 => .copC
  | 12 => .copNcAndNz
  | 13 => .copCOrZ
  | 14 => .copOther0E
  | 15 => .copOther0F
  | 16 => .copOther10
  | 17 => .copOther11
  | 18 => .copOther12
  | 19 => .copOther13
  | 20 => .copOther14
  | 21 => .copOther15
  | 22 => .copOther16
  | 23 => .copOther17
  | 24 => .copOther18
  | 25 => .copOther19
  | 26 => .copOther1A
  | 27 => .copOther1B
  | 28 => .copOther1C
  | 29 => .copOther1D
  | 30 => .copOther1E
  | 31 => .copOther1F
  | 32 => .copOther20
  | 33 => .copOther21
  | 34 => .copOther22
  | 35 => .copOther23
  | 36 => .copOther24
  | 37 => .copOther25
  | 38 => .copOther26
  | 39 => .copOther27
  | 40 => .copOther28
  | 41 => .copOther29
  | 42 => .copOther2A
  | 43 => .copOther2B
  | 44 => .copOther2C
  | 45 => .copOther2D
  | 46 => .copOther2E
  | 47 => .copOther2F
  | 48 => .copOther30
  | 49 => .copOther31
  | 50 => .copOther32
  | 51 => .copOther33
  | 52 => .copOther34
  | 53 => .copOther35
  | 54 => .copOther36
  | 55 => .copOther37
  | 56 => .copOther38
  | 57 => .copOther39
  | 58 => .copOther3A
  | 59 => .copOther3B
  | 60 => .copOther3C
  | 61 => .copOther3D
  | 62 => .copOther3E
  | _ => .copOther3F

/-- The row of `mwe` (R338). -/
def mweOrder (b : Bool) : Instr := if b then .mweWrite else .mweRead

/-- The row of `a_mux`, with `ra_addr` where it is the index (R329). -/
def aMuxOrder (b : Bool) (ra : RegIx) : Instr := if b then .aMuxField ra else .aMuxIr

/-- The row of `b_mux`, with `rb_addr` where it is the index (R329). -/
def bMuxOrder (b : Bool) (rb : RegIx) : Instr := if b then .bMuxField rb else .bMuxIr

/-- The row of `k_mux`, with `constant` where it is the D input (R330). -/
def kMuxOrder (b : Bool) (k : Word) : Instr := if b then .kMuxConst k else .kMuxDbus

/-- The row a field of a decoded word holds. The table has no row for `ir`, `srM` and `srm` at 0. -/
def Fields.row (f : Fields) : Family → Option Instr
  | .halt => none
  | .ci => some (ciOrder f.ci f.bar f.ccen)
  | .ic => some (icOrder f.ic)
  | .ds => some (dsOrder f.ds)
  | .op => some (opOrder f.op)
  | .rs => some (rsOrder f.rs)
  | .yMux => some (yMuxOrder f.yMux)
  | .sel => some (selOrder f.sel)
  | .cop => some (copOrder f.cop)
  | .mwe => some (mweOrder f.mwe)
  | .ir => if f.ir then some .irLoad else none
  | .srMacro => if f.srMacro then some .srMacroLatch else none
  | .srMicro => if f.srMicro then some .srMicroLatch else none
  | .aMux => some (aMuxOrder f.aMux f.raAddr)
  | .bMux => some (bMuxOrder f.bMux f.rbAddr)
  | .kMux => some (kMuxOrder f.kMux f.constant)
  | .unread => some (.sscuUnread f.unread)
  | .macroWord => none

/-- The row that a family's field of a control word holds; the halt sentinel holds the row HALT and no other (R110). -/
def decodeRow (fam : Family) (w : ControlWord) : Option Instr :=
  match decodeWord w with
  | .halt => if fam = .halt then some .halt else none
  | .fields f => f.row fam

/-! ## The order of a microcycle -/

/-- The rows a decoded word runs at steps 3 to 8, in the order of 44_cycle.md: the IC action (step 3, R323 to R327), the
operand indices, the D input and the ALU (step 4, R329 to R331), the routing (step 5, R332), the deferred PC load (step
6, R328 and R333), the IR load (step 7, R334), and the status unit's source, condition and latches (step 8, R242 to
R255). -/
def Fields.frontOrders (f : Fields) : List Instr :=
  (if f.ic = 8 then [] else [icOrder f.ic])
    ++ [aMuxOrder f.aMux f.raAddr, bMuxOrder f.bMux f.rbAddr, kMuxOrder f.kMux f.constant,
        dsOrder f.ds, opOrder f.op, rsOrder f.rs, yMuxOrder f.yMux]
    ++ (if f.ic = 8 then [icOrder f.ic] else [])
    ++ (if f.ir then [.irLoad] else [])
    ++ [selOrder f.sel, copOrder f.cop, .sscuUnread f.unread]
    ++ (if f.srMacro then [.srMacroLatch] else [])
    ++ (if f.srMicro then [.srMicroLatch] else [])

/-- The rows a decoded word runs after the opcode mapping of step 9: the sequencer (step 10, R337) and the memory stage
(step 11, R338). -/
def Fields.backOrders (f : Fields) : List Instr :=
  [ciOrder f.ci f.bar f.ccen, mweOrder f.mwe]

/-! ## The macro word (R113) -/

/-- `IR[15:8]`. -/
def macroOpcode (w : Word) : BitVec 8 := w.extractLsb' 8 8

/-- `IR[7:4]`. -/
def macroRegA (w : Word) : RegIx := w.extractLsb' 4 4

/-- `IR[3:0]`. -/
def macroRegB (w : Word) : RegIx := w.extractLsb' 0 4

/-- The row of a macro word (R371 to R391), refused by name outside the table. -/
def decodeMacro (w : Word) : Except DecodeError Instr :=
  let regA := macroRegA w
  let regB := macroRegB w
  match (macroOpcode w).toNat with
  | 0x00 => .ok (.macNoInstruction regA regB)
  | 0x01 => .ok (.macMovRegReg regA regB)
  | 0x02 => .ok (.macMovConstReg regA regB)
  | 0x03 => .ok (.macMovLoad regA regB)
  | 0x04 => .ok (.macMovStore regA regB)
  | 0x05 => .ok (.macAdd regA regB)
  | 0x06 => .ok (.macSub regA regB)
  | 0x07 => .ok (.macCmp regA regB)
  | 0x08 => .ok (.macXor regA regB)
  | 0x09 => .ok (.macTest regA regB)
  | 0x0A => .ok (.macJmpReg regA regB)
  | 0x0B => .ok (.macJmpConst regA regB)
  | 0x0C => .ok (.macJzReg regA regB)
  | 0x0D => .ok (.macJzConst regA regB)
  | 0x0E => .ok (.macJlReg regA regB)
  | 0x0F => .ok (.macJlConst regA regB)
  | 0x10 => .ok (.macJleReg regA regB)
  | 0x11 => .ok (.macJleConst regA regB)
  | 0x12 => .ok (.macWtf regA regB)
  | 0x13 => .ok (.macUpp regA regB)
  | 0xFF => if regA = 0 ∧ regB = 0 then .ok .macHalt else .error (.unlistedMacroOpcode 0xFF)
  | _ => .error (.unlistedMacroOpcode (macroOpcode w))

/-- The macro forms that one literal word follows (R392): opcodes 0x02, 0x0B, 0x0D, 0x0F, 0x11. The core does not read
the length; the microprogram does (R114). -/
def Instr.hasLiteral : Instr → Bool
  | .macMovConstReg _ _ => true
  | .macJmpConst _ _ => true
  | .macJzConst _ _ => true
  | .macJlConst _ _ => true
  | .macJleConst _ _ => true
  | _ => false

/-- One macro instruction read from the front of a macro program's words, with its literal where its form has one, and
the words that follow (R113, R114, R392). -/
def decodeMacroWords : List Word → Except DecodeError (Option (Instr × Option Word × List Word))
  | [] => .ok none
  | w :: rest =>
    match decodeMacro w with
    | .error e => .error e
    | .ok i =>
      if i.hasLiteral then
        match rest with
        | [] => .error .missingLiteral
        | lit :: rest' => .ok (some (i, some lit, rest'))
      else .ok (some (i, none, rest))

/-! ## The encoders -/

/-- A field's value at its bit offset in a word that is 0 elsewhere. -/
def placeField {n : Nat} (offset : Nat) (v : BitVec n) : ControlWord := v.setWidth 75 <<< offset

/-- The control word of seventeen fields: the OR over the fields of `value << offset` (R115), with R101's offsets. -/
def Fields.toWord (f : Fields) : ControlWord :=
  placeField 0 (BitVec.ofBool f.mwe) ||| placeField 1 (BitVec.ofBool f.ir) ||| placeField 2 f.ic
    ||| placeField 6 f.bar ||| placeField 18 f.ci ||| placeField 22 (BitVec.ofBool f.ccen)
    ||| placeField 23 (BitVec.ofBool f.srMacro) ||| placeField 24 (BitVec.ofBool f.srMicro) ||| placeField 25 f.sscu
    ||| placeField 37 f.yMux ||| placeField 39 (BitVec.ofBool f.bMux) ||| placeField 40 f.rbAddr
    ||| placeField 44 (BitVec.ofBool f.aMux) ||| placeField 45 f.raAddr ||| placeField 49 f.alu
    ||| placeField 58 f.constant ||| placeField 74 (BitVec.ofBool f.kMux)

/-- The `alu` field of its sub-fields (R103). -/
def aluField (ds op rs : BitVec 3) : BitVec 9 := rs ++ op ++ ds

/-- The `sscu` field of its sub-fields (R104). -/
def sscuField (cop : BitVec 6) (unread : BitVec 4) (sel : BitVec 2) : BitVec 12 := sel ++ unread ++ cop

/-- The macro word of its opcode and register fields (R113). -/
def macroBits (opcode : BitVec 8) (regA regB : RegIx) : Word := opcode ++ regA ++ regB

/-- The words of a macro instruction in a macro program: its word, then its literal where the form has one (R392). -/
def macroWords (w : Word) (lit : Option Word) : List Word := w :: lit.toList

/-- The family of a row. -/
def Instr.family : Instr → Family
  | .halt => .halt
  | .ciReset => .ci
  | .ciCjs _ _ => .ci
  | .ciJmap => .ci
  | .ciCjp _ _ => .ci
  | .ciPush _ => .ci
  | .ciCrtn _ => .ci
  | .ciCjpp _ _ => .ci
  | .ciCont => .ci
  | .ciInvalid0101 => .ci
  | .ciInvalid0110 => .ci
  | .ciInvalid0111 => .ci
  | .ciInvalid1000 => .ci
  | .ciInvalid1001 => .ci
  | .ciInvalid1100 => .ci
  | .ciInvalid1101 => .ci
  | .ciInvalid1111 => .ci
  | .icNone => .ic
  | .icAbusPc => .ic
  | .icPcInc => .ic
  | .icDbusPc => .ic
  | .icPcDbus => .ic
  | .icMalformed0011 => .ic
  | .icMalformed0101 => .ic
  | .icMalformed0110 => .ic
  | .icMalformed0111 => .ic
  | .icMalformed1001 => .ic
  | .icMalformed1010 => .ic
  | .icMalformed1011 => .ic
  | .icMalformed1100 => .ic
  | .icMalformed1101 => .ic
  | .icMalformed1110 => .ic
  | .icMalformed1111 => .ic
  | .dsAq => .ds
  | .dsAb => .ds
  | .dsZq => .ds
  | .dsZb => .ds
  | .dsZa => .ds
  | .dsDa => .ds
  | .dsDq => .ds
  | .dsDz => .ds
  | .opAdd => .op
  | .opSubr => .op
  | .opSubs => .op
  | .opOr => .op
  | .opAnd => .op
  | .opNotrs => .op
  | .opExor => .op
  | .opExnor => .op
  | .rsNone => .rs
  | .rsAcc => .rs
  | .rsRegPass => .rs
  | .rsReg => .rs
  | .rsIllegal4 => .rs
  | .rsIllegal5 => .rs
  | .rsIllegal6 => .rs
  | .rsIllegal7 => .rs
  | .yMuxNone => .yMux
  | .yMuxAbus => .yMux
  | .yMuxDbus => .yMux
  | .yMuxAbusDbus => .yMux
  | .selMicro => .sel
  | .selMacro => .sel
  | .selNone => .sel
  | .selIllegal => .sel
  | .copNz => .cop
  | .copZ => .cop
  | .copNc => .cop
  | .copC => .cop
  | .copNcAndNz => .cop
  | .copCOrZ => .cop
  | .copOther00 => .cop
  | .copOther01 => .cop
  | .copOther02 => .cop
  | .copOther03 => .cop
  | .copOther06 => .cop
  | .copOther07 => .cop
  | .copOther08 => .cop
  | .copOther09 => .cop
  | .copOther0E => .cop
  | .copOther0F => .cop
  | .copOther10 => .cop
  | .copOther11 => .cop
  | .copOther12 => .cop
  | .copOther13 => .cop
  | .copOther14 => .cop
  | .copOther15 => .cop
  | .copOther16 => .cop
  | .copOther17 => .cop
  | .copOther18 => .cop
  | .copOther19 => .cop
  | .copOther1A => .cop
  | .copOther1B => .cop
  | .copOther1C => .cop
  | .copOther1D => .cop
  | .copOther1E => .cop
  | .copOther1F => .cop
  | .copOther20 => .cop
  | .copOther21 => .cop
  | .copOther22 => .cop
  | .copOther23 => .cop
  | .copOther24 => .cop
  | .copOther25 => .cop
  | .copOther26 => .cop
  | .copOther27 => .cop
  | .copOther28 => .cop
  | .copOther29 => .cop
  | .copOther2A => .cop
  | .copOther2B => .cop
  | .copOther2C => .cop
  | .copOther2D => .cop
  | .copOther2E => .cop
  | .copOther2F => .cop
  | .copOther30 => .cop
  | .copOther31 => .cop
  | .copOther32 => .cop
  | .copOther33 => .cop
  | .copOther34 => .cop
  | .copOther35 => .cop
  | .copOther36 => .cop
  | .copOther37 => .cop
  | .copOther38 => .cop
  | .copOther39 => .cop
  | .copOther3A => .cop
  | .copOther3B => .cop
  | .copOther3C => .cop
  | .copOther3D => .cop
  | .copOther3E => .cop
  | .copOther3F => .cop
  | .mweRead => .mwe
  | .mweWrite => .mwe
  | .irLoad => .ir
  | .srMacroLatch => .srMacro
  | .srMicroLatch => .srMicro
  | .aMuxField _ => .aMux
  | .aMuxIr => .aMux
  | .bMuxField _ => .bMux
  | .bMuxIr => .bMux
  | .kMuxConst _ => .kMux
  | .kMuxDbus => .kMux
  | .sscuUnread _ => .unread
  | .macNoInstruction _ _ => .macroWord
  | .macMovRegReg _ _ => .macroWord
  | .macMovConstReg _ _ => .macroWord
  | .macMovLoad _ _ => .macroWord
  | .macMovStore _ _ => .macroWord
  | .macAdd _ _ => .macroWord
  | .macSub _ _ => .macroWord
  | .macCmp _ _ => .macroWord
  | .macXor _ _ => .macroWord
  | .macTest _ _ => .macroWord
  | .macJmpReg _ _ => .macroWord
  | .macJmpConst _ _ => .macroWord
  | .macJzReg _ _ => .macroWord
  | .macJzConst _ _ => .macroWord
  | .macJlReg _ _ => .macroWord
  | .macJlConst _ _ => .macroWord
  | .macJleReg _ _ => .macroWord
  | .macJleConst _ _ => .macroWord
  | .macWtf _ _ => .macroWord
  | .macUpp _ _ => .macroWord
  | .macHalt => .macroWord

/-- The fields a micro-order sets, every other field 0 (R115). HALT and the macro words have none. -/
def Instr.rowFields : Instr → Fields
  | .halt => {}
  | .ciReset => { ci := 0 }
  | .ciCjs bar ccen => { ci := 1, bar := bar, ccen := ccen }
  | .ciJmap => { ci := 2 }
  | .ciCjp bar ccen => { ci := 3, bar := bar, ccen := ccen }
  | .ciPush bar => { ci := 4, bar := bar }
  | .ciCrtn ccen => { ci := 10, ccen := ccen }
  | .ciCjpp bar ccen => { ci := 11, bar := bar, ccen := ccen }
  | .ciCont => { ci := 14 }
  | .ciInvalid0101 => { ci := 5 }
  | .ciInvalid0110 => { ci := 6 }
  | .ciInvalid0111 => { ci := 7 }
  | .ciInvalid1000 => { ci := 8 }
  | .ciInvalid1001 => { ci := 9 }
  | .ciInvalid1100 => { ci := 12 }
  | .ciInvalid1101 => { ci := 13 }
  | .ciInvalid1111 => { ci := 15 }
  | .icNone => { ic := 0 }
  | .icAbusPc => { ic := 1 }
  | .icPcInc => { ic := 2 }
  | .icDbusPc => { ic := 4 }
  | .icPcDbus => { ic := 8 }
  | .icMalformed0011 => { ic := 3 }
  | .icMalformed0101 => { ic := 5 }
  | .icMalformed0110 => { ic := 6 }
  | .icMalformed0111 => { ic := 7 }
  | .icMalformed1001 => { ic := 9 }
  | .icMalformed1010 => { ic := 10 }
  | .icMalformed1011 => { ic := 11 }
  | .icMalformed1100 => { ic := 12 }
  | .icMalformed1101 => { ic := 13 }
  | .icMalformed1110 => { ic := 14 }
  | .icMalformed1111 => { ic := 15 }
  | .dsAq => { alu := aluField 0 0 0 }
  | .dsAb => { alu := aluField 1 0 0 }
  | .dsZq => { alu := aluField 2 0 0 }
  | .dsZb => { alu := aluField 3 0 0 }
  | .dsZa => { alu := aluField 4 0 0 }
  | .dsDa => { alu := aluField 5 0 0 }
  | .dsDq => { alu := aluField 6 0 0 }
  | .dsDz => { alu := aluField 7 0 0 }
  | .opAdd => { alu := aluField 0 0 0 }
  | .opSubr => { alu := aluField 0 1 0 }
  | .opSubs => { alu := aluField 0 2 0 }
  | .opOr => { alu := aluField 0 3 0 }
  | .opAnd => { alu := aluField 0 4 0 }
  | .opNotrs => { alu := aluField 0 5 0 }
  | .opExor => { alu := aluField 0 6 0 }
  | .opExnor => { alu := aluField 0 7 0 }
  | .rsNone => { alu := aluField 0 0 0 }
  | .rsAcc => { alu := aluField 0 0 1 }
  | .rsRegPass => { alu := aluField 0 0 2 }
  | .rsReg => { alu := aluField 0 0 3 }
  | .rsIllegal4 => { alu := aluField 0 0 4 }
  | .rsIllegal5 => { alu := aluField 0 0 5 }
  | .rsIllegal6 => { alu := aluField 0 0 6 }
  | .rsIllegal7 => { alu := aluField 0 0 7 }
  | .yMuxNone => { yMux := 0 }
  | .yMuxAbus => { yMux := 1 }
  | .yMuxDbus => { yMux := 2 }
  | .yMuxAbusDbus => { yMux := 3 }
  | .selMicro => { sscu := sscuField 0 0 2 }
  | .selMacro => { sscu := sscuField 0 0 1 }
  | .selNone => { sscu := sscuField 0 0 0 }
  | .selIllegal => { sscu := sscuField 0 0 3 }
  | .copNz => { sscu := sscuField 4 0 0 }
  | .copZ => { sscu := sscuField 5 0 0 }
  | .copNc => { sscu := sscuField 10 0 0 }
  | .copC => { sscu := sscuField 11 0 0 }
  | .copNcAndNz => { sscu := sscuField 12 0 0 }
  | .copCOrZ => { sscu := sscuField 13 0 0 }
  | .copOther00 => { sscu := sscuField 0 0 0 }
  | .copOther01 => { sscu := sscuField 1 0 0 }
  | .copOther02 => { sscu := sscuField 2 0 0 }
  | .copOther03 => { sscu := sscuField 3 0 0 }
  | .copOther06 => { sscu := sscuField 6 0 0 }
  | .copOther07 => { sscu := sscuField 7 0 0 }
  | .copOther08 => { sscu := sscuField 8 0 0 }
  | .copOther09 => { sscu := sscuField 9 0 0 }
  | .copOther0E => { sscu := sscuField 14 0 0 }
  | .copOther0F => { sscu := sscuField 15 0 0 }
  | .copOther10 => { sscu := sscuField 16 0 0 }
  | .copOther11 => { sscu := sscuField 17 0 0 }
  | .copOther12 => { sscu := sscuField 18 0 0 }
  | .copOther13 => { sscu := sscuField 19 0 0 }
  | .copOther14 => { sscu := sscuField 20 0 0 }
  | .copOther15 => { sscu := sscuField 21 0 0 }
  | .copOther16 => { sscu := sscuField 22 0 0 }
  | .copOther17 => { sscu := sscuField 23 0 0 }
  | .copOther18 => { sscu := sscuField 24 0 0 }
  | .copOther19 => { sscu := sscuField 25 0 0 }
  | .copOther1A => { sscu := sscuField 26 0 0 }
  | .copOther1B => { sscu := sscuField 27 0 0 }
  | .copOther1C => { sscu := sscuField 28 0 0 }
  | .copOther1D => { sscu := sscuField 29 0 0 }
  | .copOther1E => { sscu := sscuField 30 0 0 }
  | .copOther1F => { sscu := sscuField 31 0 0 }
  | .copOther20 => { sscu := sscuField 32 0 0 }
  | .copOther21 => { sscu := sscuField 33 0 0 }
  | .copOther22 => { sscu := sscuField 34 0 0 }
  | .copOther23 => { sscu := sscuField 35 0 0 }
  | .copOther24 => { sscu := sscuField 36 0 0 }
  | .copOther25 => { sscu := sscuField 37 0 0 }
  | .copOther26 => { sscu := sscuField 38 0 0 }
  | .copOther27 => { sscu := sscuField 39 0 0 }
  | .copOther28 => { sscu := sscuField 40 0 0 }
  | .copOther29 => { sscu := sscuField 41 0 0 }
  | .copOther2A => { sscu := sscuField 42 0 0 }
  | .copOther2B => { sscu := sscuField 43 0 0 }
  | .copOther2C => { sscu := sscuField 44 0 0 }
  | .copOther2D => { sscu := sscuField 45 0 0 }
  | .copOther2E => { sscu := sscuField 46 0 0 }
  | .copOther2F => { sscu := sscuField 47 0 0 }
  | .copOther30 => { sscu := sscuField 48 0 0 }
  | .copOther31 => { sscu := sscuField 49 0 0 }
  | .copOther32 => { sscu := sscuField 50 0 0 }
  | .copOther33 => { sscu := sscuField 51 0 0 }
  | .copOther34 => { sscu := sscuField 52 0 0 }
  | .copOther35 => { sscu := sscuField 53 0 0 }
  | .copOther36 => { sscu := sscuField 54 0 0 }
  | .copOther37 => { sscu := sscuField 55 0 0 }
  | .copOther38 => { sscu := sscuField 56 0 0 }
  | .copOther39 => { sscu := sscuField 57 0 0 }
  | .copOther3A => { sscu := sscuField 58 0 0 }
  | .copOther3B => { sscu := sscuField 59 0 0 }
  | .copOther3C => { sscu := sscuField 60 0 0 }
  | .copOther3D => { sscu := sscuField 61 0 0 }
  | .copOther3E => { sscu := sscuField 62 0 0 }
  | .copOther3F => { sscu := sscuField 63 0 0 }
  | .mweRead => {}
  | .mweWrite => { mwe := true }
  | .irLoad => { ir := true }
  | .srMacroLatch => { srMacro := true }
  | .srMicroLatch => { srMicro := true }
  | .aMuxField ra => { aMux := true, raAddr := ra }
  | .aMuxIr => {}
  | .bMuxField rb => { bMux := true, rbAddr := rb }
  | .bMuxIr => {}
  | .kMuxConst k => { kMux := true, constant := k }
  | .kMuxDbus => {}
  | .sscuUnread unread => { sscu := sscuField 0 unread 0 }
  | .macNoInstruction _ _ => {}
  | .macMovRegReg _ _ => {}
  | .macMovConstReg _ _ => {}
  | .macMovLoad _ _ => {}
  | .macMovStore _ _ => {}
  | .macAdd _ _ => {}
  | .macSub _ _ => {}
  | .macCmp _ _ => {}
  | .macXor _ _ => {}
  | .macTest _ _ => {}
  | .macJmpReg _ _ => {}
  | .macJmpConst _ _ => {}
  | .macJzReg _ _ => {}
  | .macJzConst _ _ => {}
  | .macJlReg _ _ => {}
  | .macJlConst _ _ => {}
  | .macJleReg _ _ => {}
  | .macJleConst _ _ => {}
  | .macWtf _ _ => {}
  | .macUpp _ _ => {}
  | .macHalt => {}

/-- The bits of a row: the halt sentinel, the micro-order's field in a word that is 0 elsewhere, or the macro word. -/
def encode : Instr → Encoded
  | .halt => .control Config.haltWord
  | .macNoInstruction regA regB => .macroWord (macroBits 0x00 regA regB)
  | .macMovRegReg regA regB => .macroWord (macroBits 0x01 regA regB)
  | .macMovConstReg regA regB => .macroWord (macroBits 0x02 regA regB)
  | .macMovLoad regA regB => .macroWord (macroBits 0x03 regA regB)
  | .macMovStore regA regB => .macroWord (macroBits 0x04 regA regB)
  | .macAdd regA regB => .macroWord (macroBits 0x05 regA regB)
  | .macSub regA regB => .macroWord (macroBits 0x06 regA regB)
  | .macCmp regA regB => .macroWord (macroBits 0x07 regA regB)
  | .macXor regA regB => .macroWord (macroBits 0x08 regA regB)
  | .macTest regA regB => .macroWord (macroBits 0x09 regA regB)
  | .macJmpReg regA regB => .macroWord (macroBits 0x0A regA regB)
  | .macJmpConst regA regB => .macroWord (macroBits 0x0B regA regB)
  | .macJzReg regA regB => .macroWord (macroBits 0x0C regA regB)
  | .macJzConst regA regB => .macroWord (macroBits 0x0D regA regB)
  | .macJlReg regA regB => .macroWord (macroBits 0x0E regA regB)
  | .macJlConst regA regB => .macroWord (macroBits 0x0F regA regB)
  | .macJleReg regA regB => .macroWord (macroBits 0x10 regA regB)
  | .macJleConst regA regB => .macroWord (macroBits 0x11 regA regB)
  | .macWtf regA regB => .macroWord (macroBits 0x12 regA regB)
  | .macUpp regA regB => .macroWord (macroBits 0x13 regA regB)
  | .macHalt => .macroWord (macroBits 0xFF 0 0)
  | i => .control i.rowFields.toWord

/-- The bits of a row read back in its family. -/
def decodeEncoded (fam : Family) : Encoded → Option Instr
  | .control w => decodeRow fam w
  | .macroWord w => (decodeMacro w).toOption

/-! ## The table's words -/

/-- The fields in which `decodeTableWord` looks for the one coded field of a table row's word: the first that is not 0
names the family. -/
def codedFamily (f : Fields) : Option Family :=
  if f.ci ≠ 0 then some .ci else if f.ic ≠ 0 then some .ic else if f.cop ≠ 0 then some .cop
  else if f.op ≠ 0 then some .op else if f.rs ≠ 0 then some .rs else if f.ds ≠ 0 then some .ds
  else if f.sel ≠ 0 then some .sel else if f.yMux ≠ 0 then some .yMux else if f.kMux then some .kMux
  else if f.aMux then some .aMux else if f.bMux then some .bMux else if f.srMicro then some .srMicro
  else if f.srMacro then some .srMacro else if f.ir then some .ir else if f.mwe then some .mwe
  else none

/-- A word whose coded fields are all 0 is the bits of every row with code 0: the byte in which the row's bits end says
which is meant (log 24). -/
def zeroFamily (nbits : Nat) : Family :=
  if nbits = 0 then .unread else if nbits ≤ 8 then .ic else if nbits ≤ 24 then .ci else if nbits ≤ 32 then .cop else if nbits ≤ 40 then .yMux
  else if nbits ≤ 48 then .aMux else if nbits ≤ 56 then .op else if nbits ≤ 64 then .rs else .kMux

/-- The row that the decoder reads from a table row's word: 16 bits are a macro word, any other width a control word,
read in the family of its coded field. -/
def decodeTableWord (nbits w : Nat) : Option Instr :=
  if nbits = 16 then (if w < 2 ^ 16 then (decodeMacro (BitVec.ofNat 16 w)).toOption else none)
  else
    match decodeNat w with
    | .error _ => none
    | .ok .halt => some .halt
    | .ok (.fields f) => f.row ((codedFamily f).getD (zeroFamily nbits))

end Sys2Proof
end

