-- ==== Sys2Proof/Machine/State.lean ====
section
/-! DEFINITION. The state of the MPE core as plain data: every piece that 10_state.md gives the machine (R30 to R43), the
read-only configuration of R46, and the model's own `sig` (log 2). -/

namespace Sys2Proof.Machine

/-- The fault kinds of R400. A fault is fatal (R401): the meaning that raises one sets `outcome` (Ops.raise), and a step
of a machine that has faulted answers it (log 3). Each is safe: the machine of the spec stops there too. -/
inductive Fault
  /-- Code 1, raised at step 1: `mic` has no entry in the control store (R321). Safe: the run ends. -/
  | unmappedMicroAddress
  /-- Code 2, raised at step 3: more than one bit of `ic` is set (R323). Safe: the run ends. -/
  | malformedIcField
  /-- Code 3, raised at step 4: `rs` is 4 to 7 (R204). Safe: the run ends. -/
  | illegalResultSelect
  /-- Code 4, raised at step 8: `sel` is 11 (R242). Safe: the run ends. -/
  | illegalStatusSelect
  /-- Code 5, raised at step 9: the opcode in `IR` is not 0 and not in the opcode table (R336). Safe: the run ends. -/
  | unmappedMacroOpcode
  /-- Code 6, raised at step 10: `ci` is 5, 6, 7, 8, 9, 12, 13 or 15 (R294). Safe: the run ends. -/
  | invalidControllerInstruction
  /-- Code 7, raised at step 10: CJS on its branch path, or PUSH, with five entries (R283). Safe: the run ends. -/
  | stackOverflow
  /-- Code 8, raised at step 10: CRTN or CJPP on its branch path with no entry (R284). Safe: the run ends. -/
  | stackUnderflow
  deriving DecidableEq, Repr

/-- Why a step could have no meaning. No arm of `exec` and no step answers one. -/
inductive Refusal
  /-- An instruction whose arm of `exec` gives it no meaning, raised by that arm. Safe: nothing is said of it. -/
  | notModelled (mnemonic : String)
  deriving DecidableEq, Repr

/-- The run outcome (R43). Every outcome other than `running` is final. -/
inductive RunOutcome
  /-- cycles go on -/
  | running
  /-- the halt sentinel was fetched (R322) -/
  | halted
  /-- a cycle raised a fault (R401) -/
  | faulted (k : Fault)
  /-- the run made `STEP_LIMIT` calls without an end (R405, R456) -/
  | stepLimitExceeded
  deriving DecidableEq, Repr

/-- The data memory: the words that do not read 0, addresses rising (R70; log 7, log 21). -/
abbrev Memory := List (Nat × Word)

/-- The control store: a partial map from micro-address to control word, addresses rising (R78). -/
abbrev ControlStore := List (Nat × ControlWord)

/-- The opcode table: a partial map from macro opcode to micro-address, opcodes rising (R79). -/
abbrev OpcodeTable := List (Nat × MicroAddr)

/-- The values that the steps of one microcycle compute and hand on to later steps of the same cycle. They are the
model's own state (log 2): every one is written before it is read in a cycle, and all are at rest between cycles. -/
structure Signals where
  /-- operand index A (R329) -/
  ia : RegIx
  /-- operand index B (R329) -/
  ib : RegIx
  /-- the D input (R330) -/
  d : Word
  /-- the function input R (R182 to R189) -/
  r : Word
  /-- the function input S (R182 to R189) -/
  s : Word
  /-- the masked result F (R198) -/
  f : Word
  /-- the flags of this cycle (R199) -/
  flags : Status
  /-- the ALU output (R200 to R203) -/
  y : Word
  /-- the condition source, none where `sel` = 00 (R243 to R245) -/
  src : Option Status
  /-- the condition bit (R240) -/
  cbit : Bool
  /-- the mapped micro-address (R336) -/
  mapped : Nat
  deriving DecidableEq, Repr

/-- No value is under way: the signals between two cycles. -/
def Signals.rest : Signals where
  ia := 0
  ib := 0
  d := 0
  r := 0
  s := 0
  f := 0
  flags := 0
  y := 0
  src := none
  cbit := false
  mapped := 0

/-- The state of the machine. -/
structure State where
  /-- the general registers `x[0]`..`x[15]` (R30) -/
  regs : Vector Word 16
  /-- the accumulator (R32) -/
  acc : Word
  /-- the micro status (R34) -/
  uS : Status
  /-- the macro status (R35) -/
  mS : Status
  /-- the instruction register (R36) -/
  ir : Word
  /-- the macro program counter (R37) -/
  pc : Word
  /-- the address bus register (R38) -/
  abus : Word
  /-- the data bus register (R39) -/
  dbus : Word
  /-- the current micro-address, 0..4096 (R40) -/
  mic : Nat
  /-- the sequencer stack, oldest entry first (R41) -/
  stack : List Nat
  /-- the data memory (R70) -/
  mem : Memory
  /-- the control store, read-only configuration (R46, R78; log 4) -/
  store : ControlStore
  /-- the opcode table, read-only configuration (R46, R79; log 4) -/
  prom : OpcodeTable
  /-- the completed microcycles of this run (R42) -/
  cycles : Nat
  /-- the run outcome (R43) -/
  outcome : RunOutcome
  /-- `STEP_LIMIT`, the run parameter (R7) -/
  stepLimit : Nat
  /-- the run loop's `calls` (R455) -/
  calls : Nat
  /-- the values that the steps of one microcycle hand on, at rest between cycles (log 2) -/
  sig : Signals
  deriving DecidableEq, Repr

/-- What an instruction or a step answers. -/
abbrev Result := Host.Outcome State Fault Refusal

/-- The machine as construction leaves it (R47, R440), with no control store, no opcode table and no image loaded yet
(R46; log 4), and the default step ceiling (R7). -/
def State.reset : State where
  regs := Vector.replicate 16 0
  acc := 0
  uS := 0
  mS := 0
  ir := 0
  pc := 0
  abus := 0
  dbus := 0
  mic := 0
  stack := []
  mem := []
  store := []
  prom := []
  cycles := 0
  outcome := .running
  stepLimit := Config.defaultStepLimit
  calls := 0
  sig := Signals.rest

/-! One update for each field. -/

/-- `regs` replaced. -/
def State.setRegs (m : State) (v : Vector Word 16) : State := { m with regs := v }

/-- `acc` replaced. -/
def State.setAcc (m : State) (v : Word) : State := { m with acc := v }

/-- `uS` replaced. -/
def State.setUS (m : State) (v : Status) : State := { m with uS := v }

/-- `mS` replaced. -/
def State.setMS (m : State) (v : Status) : State := { m with mS := v }

/-- `ir` replaced. -/
def State.setIr (m : State) (v : Word) : State := { m with ir := v }

/-- `pc` replaced. -/
def State.setPc (m : State) (v : Word) : State := { m with pc := v }

/-- `abus` replaced. -/
def State.setAbus (m : State) (v : Word) : State := { m with abus := v }

/-- `dbus` replaced. -/
def State.setDbus (m : State) (v : Word) : State := { m with dbus := v }

/-- `mic` replaced. -/
def State.setMic (m : State) (v : Nat) : State := { m with mic := v }

/-- `stack` replaced. -/
def State.setStack (m : State) (v : List Nat) : State := { m with stack := v }

/-- `mem` replaced. -/
def State.setMem (m : State) (v : Memory) : State := { m with mem := v }

/-- `store` replaced. -/
def State.setStore (m : State) (v : ControlStore) : State := { m with store := v }

/-- `prom` replaced. -/
def State.setProm (m : State) (v : OpcodeTable) : State := { m with prom := v }

/-- `cycles` replaced. -/
def State.setCycles (m : State) (v : Nat) : State := { m with cycles := v }

/-- `outcome` replaced. -/
def State.setOutcome (m : State) (v : RunOutcome) : State := { m with outcome := v }

/-- `stepLimit` replaced. -/
def State.setStepLimit (m : State) (v : Nat) : State := { m with stepLimit := v }

/-- `calls` replaced. -/
def State.setCalls (m : State) (v : Nat) : State := { m with calls := v }

/-- `sig` replaced. -/
def State.setSig (m : State) (v : Signals) : State := { m with sig := v }

end Sys2Proof.Machine
end

