-- ==== Sys2Proof/Machine/Ops.lean ====
section
/-! DEFINITION. The named operations over memory, the read-only maps, the registers, the sequencer stack, the opcode
mapping and the run: reading and writing, raising a fault, pushing and popping, placing a word to be fetched. -/

namespace Sys2Proof.Machine

/-! ## Maps in canonical form -/

/-- The value a map lists at a key. -/
def lookupCell {α : Type} : List (Nat × α) → Nat → Option α
  | [], _ => none
  | (k, v) :: rest, a => if k = a then some v else lookupCell rest a

/-- The map with a key's value replaced, keys still rising. -/
def insertCell {α : Type} : List (Nat × α) → Nat → α → List (Nat × α)
  | [], a, v => [(a, v)]
  | (k, w) :: rest, a, v =>
    if a < k then (a, v) :: (k, w) :: rest
    else if a = k then (a, v) :: rest
    else (k, w) :: insertCell rest a v

/-- The map without a key. -/
def eraseCell {α : Type} : List (Nat × α) → Nat → List (Nat × α)
  | [], _ => []
  | (k, w) :: rest, a => if k = a then rest else (k, w) :: eraseCell rest a

/-- The keys rise strictly from above `lo`. -/
def risingFrom {α : Type} (lo : Nat) : List (Nat × α) → Bool
  | [] => true
  | (k, _) :: rest => decide (lo ≤ k) && risingFrom (k + 1) rest

/-- The keys rise strictly and stay below `bound`. -/
def mapWf {α : Type} (bound : Nat) (m : List (Nat × α)) : Bool :=
  risingFrom 0 m && m.all (fun c => decide (c.1 < bound))

/-! ## Data memory (20_memory.md) -/

/-- The canonical form of data memory: addresses rise, stay below `MEM_WORDS`, and no entry equals what an unlisted
word reads as. -/
def Memory.wf (m : Memory) : Bool :=
  mapWf Config.memWords m && m.all (fun c => decide (c.2 ≠ Config.unlistedWord))

/-- `MemRead(a, 1)` (R73). -/
def Memory.read (m : Memory) (a : Word) : Word := (lookupCell m a.toNat).getD Config.unlistedWord

/-- `MemWrite(a, 1, v)` (R72): every address is writable. -/
def Memory.write (m : Memory) (a v : Word) : Memory :=
  if v = Config.unlistedWord then eraseCell m a.toNat else insertCell m a.toNat v

/-! ## Control store and opcode table (R78, R79) -/

/-- The canonical form of a control store: micro-addresses rise and stay in 0..4095. -/
def ControlStore.wf (m : ControlStore) : Bool := mapWf Config.microSpace m

/-- The canonical form of an opcode table: opcodes rise and stay in 0..255. -/
def OpcodeTable.wf (m : OpcodeTable) : Bool := mapWf 256 m

/-- `CS(a)`: the word at a micro-address, ABSENT outside 0..4095 (R78, R321). -/
def ControlStore.read (m : ControlStore) (a : Nat) : Option ControlWord :=
  if a < Config.microSpace then lookupCell m a else none

/-- `PROM(op)`: the micro-address of an opcode, or ABSENT (R79). -/
def OpcodeTable.read (m : OpcodeTable) (op : BitVec 8) : Option MicroAddr := lookupCell m op.toNat

/-- The fetch of step 1: `CS(mic)` (R321). -/
def fetchWord (s : State) : Option ControlWord := s.store.read s.mic

/-! ## Registers (R30, R109: every index names a register) -/

/-- `x[i]`. -/
def State.reg (s : State) (i : RegIx) : Word := s.regs[i.toNat]'i.isLt

/-- `x[i] <- v`. -/
def State.setReg (s : State) (i : RegIx) (v : Word) : State := s.setRegs (s.regs.set i.toNat v i.isLt)

/-! ## Raising a fault (R401, R402) -/

/-- `raise Fault(K)`: the run ends with outcome `Faulted(K)`. Everything that earlier steps wrote stands, and nothing else
changes: `mic` keeps the address of the faulting microinstruction and `cycles` its count (R402). No handler is entered
and no state is saved (R408), and nothing returns from a fault (R409). The signals under way are dropped (log 2). -/
def raise (k : Fault) (s : State) : Result :=
  .next ((s.setOutcome (.faulted k)).setSig Signals.rest)

/-- The numeric code of a fault kind (R400). -/
def Fault.code : Fault → Nat
  | .unmappedMicroAddress => 1
  | .malformedIcField => 2
  | .illegalResultSelect => 3
  | .illegalStatusSelect => 4
  | .unmappedMacroOpcode => 5
  | .invalidControllerInstruction => 6
  | .stackOverflow => 7
  | .stackUnderflow => 8

/-- The fault record (R404): the kind and the micro-address of the faulting microinstruction. -/
def faultRecord (s : State) : Option (Fault × Nat) :=
  match s.outcome with
  | .faulted k => some (k, s.mic)
  | _ => none

/-! ## The sequencer (43_sequencer.md) -/

/-- `cond = (ccen = 1) and (cbit = 0)` (R282). -/
def condHolds (ccen : Bool) (s : State) : Bool := ccen && !s.sig.cbit

/-- `next = target`, committed to `mic` (R296). -/
def goTo (target : Nat) (s : State) : Result := .next (s.setMic target)

/-- The sequential successor `mic + 1`, with no wrap (R285, decision D4; log 11). -/
def goOn (s : State) : Result := goTo (s.mic + 1) s

/-- `push(v)`, then `next = target`: a full stack faults before anything changes (R283, R296). More than five entries, which
no run reaches, count as full too (DESIGN CHOICE, log 10). -/
def pushAndGo (v target : Nat) (s : State) : Result :=
  if Config.stackDepth ≤ s.stack.length then raise .stackOverflow s
  else goTo target (s.setStack (s.stack ++ [v]))

/-- `v = pop()`, then `next = target v`: an empty stack faults before anything changes (R284, R296). -/
def popAndGo (target : Nat → Nat) (s : State) : Result :=
  match s.stack.getLast? with
  | none => raise .stackUnderflow s
  | some v => goTo (target v) (s.setStack s.stack.dropLast)

/-! ## Opcode mapping (R336) -/

/-- Step 9: the opcode in `IR` is mapped; opcode 0 maps to 0 and is exempt from the table (R371). -/
def mapOpcode (s : State) : Result :=
  if macroOpcode s.ir = 0 then .next (s.setSig { s.sig with mapped := 0 })
  else
    match s.prom.read (macroOpcode s.ir) with
    | none => raise .unmappedMacroOpcode s
    | some a => .next (s.setSig { s.sig with mapped := a.toNat })

/-- A macro word stands in `IR`, where its register fields are the default operand indices of later cycles (R370), and
its opcode is mapped. -/
def presentMacro (w : Word) (s : State) : Result := mapOpcode (s.setIr w)

/-! ## Placing a word to be fetched next -/

/-- A run that is under way, below its step ceiling, with `mic` a control-store address. -/
def readyToFetch (s : State) : State :=
  let s := (s.setOutcome .running).setSig Signals.rest
  let s := s.setStepLimit (max s.stepLimit (s.calls + 1))
  if s.mic < Config.microSpace then s else s.setMic 0

/-- A control word where the next cycle fetches. -/
def placeControl (s : State) (w : ControlWord) : State := s.setStore (insertCell s.store s.mic w)

/-- The control word `{ir=1, ci=JMAP}`, which loads the data bus into `IR` and dispatches on it (R448). -/
def loadAndDispatch : ControlWord := Fields.toWord { ir := true, ci := 2 }

/-- A macro word where the next cycle loads `IR` from: on the data bus, with the load-and-dispatch word at `mic` and
its opcode mapped (to micro-address 0 where the table has no entry; log 5). -/
def placeMacro (s : State) (w : Word) : State :=
  let s := (placeControl s loadAndDispatch).setDbus w
  if macroOpcode w = 0 then s
  else
    match s.prom.read (macroOpcode w) with
    | some _ => s
    | none => s.setProm (insertCell s.prom (macroOpcode w).toNat 0)

end Sys2Proof.Machine
end

