-- ==== Sys2Proof/Machine/Operands.lean ====
section
/-! DEFINITION. The operand forms: the operand indices and the D input of step 4 (R329, R330), and the ALU's two
function inputs (R182 to R189). All reads of one ALU call see the values before the call (R206; log 15). -/

namespace Sys2Proof.Machine

/-- Operand index A of this cycle. -/
def latchIndexA (i : RegIx) (s : State) : Result := .next (s.setSig { s.sig with ia := i })

/-- Operand index B of this cycle. -/
def latchIndexB (i : RegIx) (s : State) : Result := .next (s.setSig { s.sig with ib := i })

/-- The D input of this cycle. -/
def latchD (v : Word) (s : State) : Result := .next (s.setSig { s.sig with d := v })

/-- `x[ia]`. -/
def operandA (s : State) : Word := s.reg s.sig.ia

/-- `x[ib]`. -/
def operandB (s : State) : Word := s.reg s.sig.ib

/-- The function inputs of this cycle. -/
def latchInputs (r sIn : Word) (s : State) : Result := .next (s.setSig { s.sig with r := r, s := sIn })

end Sys2Proof.Machine
end

