-- ==== Sys2Proof/Machine/AluDestination.lean ====
section
/-! DEFINITION. The meanings of the ALU's destinations and output (R200 to R204). -/

namespace Sys2Proof.Machine

/-- `rs` = 0 (R200): no write, `y = F`. -/
def execRsNone (s : State) : Result :=
  .next (s.setSig { s.sig with y := s.sig.f })

/-- `rs` = 1 (R201): `acc <- F`, `y = F`. -/
def execRsAcc (s : State) : Result :=
  .next ((s.setAcc s.sig.f).setSig { s.sig with y := s.sig.f })

/-- `rs` = 2 (R202): `x[ib] <- F`, and `y` is `x[ia]` before the call. -/
def execRsRegPass (s : State) : Result :=
  .next ((s.setReg s.sig.ib s.sig.f).setSig { s.sig with y := operandA s })

/-- `rs` = 3 (R203): `x[ib] <- F`, `y = F`. -/
def execRsReg (s : State) : Result :=
  .next ((s.setReg s.sig.ib s.sig.f).setSig { s.sig with y := s.sig.f })

/-- `rs` = 4 (R204): nothing is written and there is no output. -/
def execRsIllegal4 (s : State) : Result :=
  raise .illegalResultSelect s

/-- `rs` = 5 (R204): nothing is written and there is no output. -/
def execRsIllegal5 (s : State) : Result :=
  raise .illegalResultSelect s

/-- `rs` = 6 (R204): nothing is written and there is no output. -/
def execRsIllegal6 (s : State) : Result :=
  raise .illegalResultSelect s

/-- `rs` = 7 (R204): nothing is written and there is no output. -/
def execRsIllegal7 (s : State) : Result :=
  raise .illegalResultSelect s

end Sys2Proof.Machine
end

