-- ==== Sys2Proof/Machine/Flags.lean ====
section
/-! DEFINITION. Raw results over unbounded integers, the masked result and the four flags (R190 to R199), the carry-in
(R241), and the status bits a condition reads (R243 to R251). -/

namespace Sys2Proof.Machine

/-- `mask16(v) = v mod 2^16`, for negative integers too (R11, R198). -/
def mask16 (v : Int) : Word := BitVec.ofInt 16 v

/-- The flags of a raw result (R199): OVR and C together when it is outside 0..0xFFFF, N when it is negative, Z when its
masked value is 0. -/
def flagsOf (raw : Int) : Status :=
  (if raw > 0xFFFF ∨ raw < 0 then 0b1100 else 0) ||| (if raw < 0 then 0b0010 else 0)
    ||| (if mask16 raw = 0 then 0b0001 else 0)

/-- The C bit of a status value (R33). -/
def statusC (w : Status) : Bool := w.getLsbD 2

/-- The Z bit of a status value (R33). -/
def statusZ (w : Status) : Bool := w.getLsbD 0

/-- `carry_in() = uS[2]` (R241), as an integer. -/
def carryIn (s : State) : Int := if statusC s.uS then 1 else 0

/-- A 16-bit value as an unsigned integer. -/
def asInt (w : Word) : Int := (w.toNat : Int)

/-- ADD: `R + S + cin` (R190). -/
def rawAdd (r s : Word) (cin : Int) : Int := asInt r + asInt s + cin

/-- SUBR: `S - R - cin` (R191). -/
def rawSubr (r s : Word) (cin : Int) : Int := asInt s - asInt r - cin

/-- SUBS: `R - S - cin` (R192). -/
def rawSubs (r s : Word) (cin : Int) : Int := asInt r - asInt s - cin

/-- OR (R193). -/
def rawOr (r s : Word) : Int := asInt (r ||| s)

/-- AND (R194). -/
def rawAnd (r s : Word) : Int := asInt (r &&& s)

/-- NOTRS: `(R xor 0xFFFF) and S` (R195). -/
def rawNotrs (r s : Word) : Int := asInt ((r ^^^ 0xFFFF) &&& s)

/-- EXOR (R196). -/
def rawExor (r s : Word) : Int := asInt (r ^^^ s)

/-- EXNOR: the complement of an unbounded integer, `-(R xor S) - 1`, always negative (R197, decision D3; log 8). -/
def rawExnor (r s : Word) : Int := -asInt (r ^^^ s) - 1

/-- The result and flags of this cycle's function (R198, R199). -/
def latchResult (raw : Int) (s : State) : Result :=
  .next (s.setSig { s.sig with f := mask16 raw, flags := flagsOf raw })

/-- The condition bit of this cycle: a test of the C and Z bits of the source, 0 where there is no source (R243 to
R245). -/
def latchCondition (test : (c z : Bool) → Bool) (s : State) : Result :=
  .next (s.setSig { s.sig with cbit := match s.sig.src with
    | none => false
    | some w => test (statusC w) (statusZ w) })

end Sys2Proof.Machine
end

