-- ==== Sys2Proof/Machine/AluFunction.lean ====
section
/-! DEFINITION. The meanings of the ALU's eight functions (R190 to R199). -/

namespace Sys2Proof.Machine

/-- ADD (R190). -/
def execOpAdd (s : State) : Result :=
  latchResult (rawAdd s.sig.r s.sig.s (carryIn s)) s

/-- SUBR (R191): the carry-in is a borrow. -/
def execOpSubr (s : State) : Result :=
  latchResult (rawSubr s.sig.r s.sig.s (carryIn s)) s

/-- SUBS (R192): the carry-in is a borrow. -/
def execOpSubs (s : State) : Result :=
  latchResult (rawSubs s.sig.r s.sig.s (carryIn s)) s

/-- OR (R193). -/
def execOpOr (s : State) : Result :=
  latchResult (rawOr s.sig.r s.sig.s) s

/-- AND (R194). -/
def execOpAnd (s : State) : Result :=
  latchResult (rawAnd s.sig.r s.sig.s) s

/-- NOTRS (R195). -/
def execOpNotrs (s : State) : Result :=
  latchResult (rawNotrs s.sig.r s.sig.s) s

/-- EXOR (R196). -/
def execOpExor (s : State) : Result :=
  latchResult (rawExor s.sig.r s.sig.s) s

/-- EXNOR (R197; log 8). -/
def execOpExnor (s : State) : Result :=
  latchResult (rawExnor s.sig.r s.sig.s) s

end Sys2Proof.Machine
end

