-- ==== Sys2Proof/Machine/AluSource.lean ====
section
/-! DEFINITION. The meanings of the ALU's source selection (R182 to R189). -/

namespace Sys2Proof.Machine

/-- `ds` = 0 AQ (R182): `R <- x[ia]`, `S <- acc`. -/
def execDsAq (s : State) : Result :=
  latchInputs (operandA s) s.acc s

/-- `ds` = 1 AB (R183): `R <- x[ia]`, `S <- x[ib]`. -/
def execDsAb (s : State) : Result :=
  latchInputs (operandA s) (operandB s) s

/-- `ds` = 2 ZQ (R184): `R <- 0`, `S <- acc`. -/
def execDsZq (s : State) : Result :=
  latchInputs 0 s.acc s

/-- `ds` = 3 ZB (R185): `R <- 0`, `S <- x[ib]`. -/
def execDsZb (s : State) : Result :=
  latchInputs 0 (operandB s) s

/-- `ds` = 4 ZA (R186): `R <- 0`, `S <- x[ia]`. -/
def execDsZa (s : State) : Result :=
  latchInputs 0 (operandA s) s

/-- `ds` = 5 DA (R187): `R <- d`, `S <- x[ia]`. -/
def execDsDa (s : State) : Result :=
  latchInputs s.sig.d (operandA s) s

/-- `ds` = 6 DQ (R188): `R <- d`, `S <- acc`. -/
def execDsDq (s : State) : Result :=
  latchInputs s.sig.d s.acc s

/-- `ds` = 7 DZ (R189): `R <- d`, `S <- 0`. -/
def execDsDz (s : State) : Result :=
  latchInputs s.sig.d 0 s

end Sys2Proof.Machine
end

