-- ==== Sys2Proof/Machine/Halt.lean ====
section
/-! DEFINITION. The meanings of the halt sentinel (R110, R322). -/

namespace Sys2Proof.Machine

/-- HALT (R110, R322): the run outcome becomes `Halted`, and nothing else is written. -/
def execHalt (s : State) : Result :=
  .next (s.setOutcome .halted)

end Sys2Proof.Machine
end

