-- ==== Sys2Proof/Machine/IcField.lean ====
section
/-! DEFINITION. The meanings of the IC field: the macro program counter and its buses (R323 to R328). -/

namespace Sys2Proof.Machine

/-- `ic` = 0000 (R324): no action. -/
def execIcNone (s : State) : Result :=
  .next s

/-- `ic` = 0001 (R325): `ABUS <- PC`. -/
def execIcAbusPc (s : State) : Result :=
  .next (s.setAbus s.pc)

/-- `ic` = 0010 (R326): `PC <- mask16(PC + 1)`. -/
def execIcPcInc (s : State) : Result :=
  .next (s.setPc (s.pc + 1))

/-- `ic` = 0100 (R327): `DBUS <- PC`. -/
def execIcDbusPc (s : State) : Result :=
  .next (s.setDbus s.pc)

/-- `ic` = 1000 (R328, R333): `PC <- DBUS`. The cycle runs it at step 6 (Fields.frontOrders). -/
def execIcPcDbus (s : State) : Result :=
  .next (s.setPc s.dbus)

/-- `ic` = 0011 (R323): more than one bit set, before any IC action. -/
def execIcMalformed0011 (s : State) : Result :=
  raise .malformedIcField s

/-- `ic` = 0101 (R323): more than one bit set, before any IC action. -/
def execIcMalformed0101 (s : State) : Result :=
  raise .malformedIcField s

/-- `ic` = 0110 (R323): more than one bit set, before any IC action. -/
def execIcMalformed0110 (s : State) : Result :=
  raise .malformedIcField s

/-- `ic` = 0111 (R323): more than one bit set, before any IC action. -/
def execIcMalformed0111 (s : State) : Result :=
  raise .malformedIcField s

/-- `ic` = 1001 (R323): more than one bit set, before any IC action. -/
def execIcMalformed1001 (s : State) : Result :=
  raise .malformedIcField s

/-- `ic` = 1010 (R323): more than one bit set, before any IC action. -/
def execIcMalformed1010 (s : State) : Result :=
  raise .malformedIcField s

/-- `ic` = 1011 (R323): more than one bit set, before any IC action. -/
def execIcMalformed1011 (s : State) : Result :=
  raise .malformedIcField s

/-- `ic` = 1100 (R323): more than one bit set, before any IC action. -/
def execIcMalformed1100 (s : State) : Result :=
  raise .malformedIcField s

/-- `ic` = 1101 (R323): more than one bit set, before any IC action. -/
def execIcMalformed1101 (s : State) : Result :=
  raise .malformedIcField s

/-- `ic` = 1110 (R323): more than one bit set, before any IC action. -/
def execIcMalformed1110 (s : State) : Result :=
  raise .malformedIcField s

/-- `ic` = 1111 (R323): more than one bit set, before any IC action. -/
def execIcMalformed1111 (s : State) : Result :=
  raise .malformedIcField s

end Sys2Proof.Machine
end

