-- ==== Sys2Proof/Machine/MacroWord.lean ====
section
/-! DEFINITION. The meanings of the macro words, as far as the core gives them meaning (R370 to R391). -/

namespace Sys2Proof.Machine

/-- Macro opcode 0x00 (R371, R370): no instruction loaded yet. Its semantics are the microprogram's (log 5). -/
def execMacNoInstruction (regA : RegIx) (regB : RegIx) (s : State) : Result :=
  presentMacro (macroBits 0x00 regA regB) s

/-- Macro opcode 0x01 (R372, R370): `MOV regA,regB`. Its semantics are the microprogram's (log 5). -/
def execMacMovRegReg (regA : RegIx) (regB : RegIx) (s : State) : Result :=
  presentMacro (macroBits 0x01 regA regB) s

/-- Macro opcode 0x02 (R373, R370): `MOV const,regB`. Its semantics are the microprogram's (log 5). -/
def execMacMovConstReg (regA : RegIx) (regB : RegIx) (s : State) : Result :=
  presentMacro (macroBits 0x02 regA regB) s

/-- Macro opcode 0x03 (R374, R370): `MOV [regA],regB`. Its semantics are the microprogram's (log 5). -/
def execMacMovLoad (regA : RegIx) (regB : RegIx) (s : State) : Result :=
  presentMacro (macroBits 0x03 regA regB) s

/-- Macro opcode 0x04 (R375, R370): `MOV regA,[regB]`. Its semantics are the microprogram's (log 5). -/
def execMacMovStore (regA : RegIx) (regB : RegIx) (s : State) : Result :=
  presentMacro (macroBits 0x04 regA regB) s

/-- Macro opcode 0x05 (R376, R370): `ADD regA,regB`. Its semantics are the microprogram's (log 5). -/
def execMacAdd (regA : RegIx) (regB : RegIx) (s : State) : Result :=
  presentMacro (macroBits 0x05 regA regB) s

/-- Macro opcode 0x06 (R377, R370): `SUB regA,regB`. Its semantics are the microprogram's (log 5). -/
def execMacSub (regA : RegIx) (regB : RegIx) (s : State) : Result :=
  presentMacro (macroBits 0x06 regA regB) s

/-- Macro opcode 0x07 (R378, R370): `CMP regA,regB`. Its semantics are the microprogram's (log 5). -/
def execMacCmp (regA : RegIx) (regB : RegIx) (s : State) : Result :=
  presentMacro (macroBits 0x07 regA regB) s

/-- Macro opcode 0x08 (R379, R370): `XOR regA,regB`. Its semantics are the microprogram's (log 5). -/
def execMacXor (regA : RegIx) (regB : RegIx) (s : State) : Result :=
  presentMacro (macroBits 0x08 regA regB) s

/-- Macro opcode 0x09 (R380, R370): `TEST regA,regB`. Its semantics are the microprogram's (log 5). -/
def execMacTest (regA : RegIx) (regB : RegIx) (s : State) : Result :=
  presentMacro (macroBits 0x09 regA regB) s

/-- Macro opcode 0x0A (R381, R370): `JMP regB`. Its semantics are the microprogram's (log 5). -/
def execMacJmpReg (regA : RegIx) (regB : RegIx) (s : State) : Result :=
  presentMacro (macroBits 0x0A regA regB) s

/-- Macro opcode 0x0B (R382, R370): `JMP const`. Its semantics are the microprogram's (log 5). -/
def execMacJmpConst (regA : RegIx) (regB : RegIx) (s : State) : Result :=
  presentMacro (macroBits 0x0B regA regB) s

/-- Macro opcode 0x0C (R383, R370): `JZ regB`. Its semantics are the microprogram's (log 5). -/
def execMacJzReg (regA : RegIx) (regB : RegIx) (s : State) : Result :=
  presentMacro (macroBits 0x0C regA regB) s

/-- Macro opcode 0x0D (R384, R370): `JZ const`. Its semantics are the microprogram's (log 5). -/
def execMacJzConst (regA : RegIx) (regB : RegIx) (s : State) : Result :=
  presentMacro (macroBits 0x0D regA regB) s

/-- Macro opcode 0x0E (R385, R370): `JL regB`. Its semantics are the microprogram's (log 5). -/
def execMacJlReg (regA : RegIx) (regB : RegIx) (s : State) : Result :=
  presentMacro (macroBits 0x0E regA regB) s

/-- Macro opcode 0x0F (R386, R370): `JL const`. Its semantics are the microprogram's (log 5). -/
def execMacJlConst (regA : RegIx) (regB : RegIx) (s : State) : Result :=
  presentMacro (macroBits 0x0F regA regB) s

/-- Macro opcode 0x10 (R387, R370): `JLE regB`. Its semantics are the microprogram's (log 5). -/
def execMacJleReg (regA : RegIx) (regB : RegIx) (s : State) : Result :=
  presentMacro (macroBits 0x10 regA regB) s

/-- Macro opcode 0x11 (R388, R370): `JLE const`. Its semantics are the microprogram's (log 5). -/
def execMacJleConst (regA : RegIx) (regB : RegIx) (s : State) : Result :=
  presentMacro (macroBits 0x11 regA regB) s

/-- Macro opcode 0x12 (R389, R370): `WTF`. Its semantics are the microprogram's (log 5). -/
def execMacWtf (regA : RegIx) (regB : RegIx) (s : State) : Result :=
  presentMacro (macroBits 0x12 regA regB) s

/-- Macro opcode 0x13 (R390, R370): `UPP regA,regB`. Its semantics are the microprogram's (log 5). -/
def execMacUpp (regA : RegIx) (regB : RegIx) (s : State) : Result :=
  presentMacro (macroBits 0x13 regA regB) s

/-- Macro opcode 0xFF (R391): the halt word 0xFF00; the core halts only through the microcode its table entry leads to (R395). -/
def execMacHalt (s : State) : Result :=
  presentMacro (macroBits 0xFF 0 0) s

end Sys2Proof.Machine
end

