-- ==== Sys2Proof/Machine/MemoryStage.lean ====
section
/-! DEFINITION. The meanings of the memory stage of step 11 (R338). -/

namespace Sys2Proof.Machine

/-- `mwe` = 0 (R338): `DBUS <- MemRead(ABUS, 1)`. -/
def execMweRead (s : State) : Result :=
  .next (s.setDbus (s.mem.read s.abus))

/-- `mwe` = 1 (R338): `MemWrite(ABUS, 1, DBUS)`. -/
def execMweWrite (s : State) : Result :=
  .next (s.setMem (s.mem.write s.abus s.dbus))

end Sys2Proof.Machine
end

