-- ==== Sys2Proof/Machine/OperandMux.lean ====
section
/-! DEFINITION. The meanings of the operand multiplexers of step 4 (R329, R330). -/

namespace Sys2Proof.Machine

/-- `a_mux` = 1 (R329): `ia = ra_addr`. -/
def execAMuxField (ra : RegIx) (s : State) : Result :=
  latchIndexA ra s

/-- `a_mux` = 0 (R329): `ia = IR[7:4]`. -/
def execAMuxIr (s : State) : Result :=
  latchIndexA (macroRegA s.ir) s

/-- `b_mux` = 1 (R329): `ib = rb_addr`. -/
def execBMuxField (rb : RegIx) (s : State) : Result :=
  latchIndexB rb s

/-- `b_mux` = 0 (R329): `ib = IR[3:0]`. -/
def execBMuxIr (s : State) : Result :=
  latchIndexB (macroRegB s.ir) s

/-- `k_mux` = 1 (R330): `d = constant`. -/
def execKMuxConst (k : Word) (s : State) : Result :=
  latchD k s

/-- `k_mux` = 0 (R330): `d = DBUS`. -/
def execKMuxDbus (s : State) : Result :=
  latchD s.dbus s

end Sys2Proof.Machine
end

