-- ==== Sys2Proof/Machine/Routing.lean ====
section
/-! DEFINITION. The meanings of the output routing of step 5 and the IR load of step 7 (R332, R334). -/

namespace Sys2Proof.Machine

/-- `y_mux` = 0 (R332): `y` is routed nowhere. -/
def execYMuxNone (s : State) : Result :=
  .next s

/-- `y_mux` = 1 (R332): `ABUS <- y`. -/
def execYMuxAbus (s : State) : Result :=
  .next (s.setAbus s.sig.y)

/-- `y_mux` = 2 (R332): `DBUS <- y`. -/
def execYMuxDbus (s : State) : Result :=
  .next (s.setDbus s.sig.y)

/-- `y_mux` = 3 (R332): `ABUS <- y`, then `DBUS <- y`. -/
def execYMuxAbusDbus (s : State) : Result :=
  .next ((s.setAbus s.sig.y).setDbus s.sig.y)

/-- `ir` = 1 (R334): `IR <- DBUS`. -/
def execIrLoad (s : State) : Result :=
  .next (s.setIr s.dbus)

end Sys2Proof.Machine
end

