-- ==== Sys2Proof/Machine/Sequencer.lean ====
section
/-! DEFINITION. The meanings of the controller instructions (R286 to R294). -/

namespace Sys2Proof.Machine

/-- RESET (R286): the stack is emptied and `next` is 0. Nothing else is reset (R442). -/
def execCiReset (s : State) : Result :=
  goTo 0 (s.setStack [])

/-- CJS (R287): the sequential path where `cond` holds; otherwise `push(mic + 1)` and `next = bar`. -/
def execCiCjs (bar : BitVec 12) (ccen : Bool) (s : State) : Result :=
  if condHolds ccen s then goOn s else pushAndGo (s.mic + 1) bar.toNat s

/-- JMAP (R288): `next = mapped`. -/
def execCiJmap (s : State) : Result :=
  goTo s.sig.mapped s

/-- CJP (R289): the sequential path where `cond` holds; otherwise `next = bar`. -/
def execCiCjp (bar : BitVec 12) (ccen : Bool) (s : State) : Result :=
  if condHolds ccen s then goOn s else goTo bar.toNat s

/-- PUSH (R290): `push(bar)` and `next = mic + 1`, unconditionally. -/
def execCiPush (bar : BitVec 12) (s : State) : Result :=
  pushAndGo bar.toNat (s.mic + 1) s

/-- CRTN (R291): the sequential path where `cond` holds; otherwise `next = pop()`. -/
def execCiCrtn (ccen : Bool) (s : State) : Result :=
  if condHolds ccen s then goOn s else popAndGo (fun v => v) s

/-- CJPP (R292): the sequential path where `cond` holds; otherwise the top entry is discarded and `next = bar`. -/
def execCiCjpp (bar : BitVec 12) (ccen : Bool) (s : State) : Result :=
  if condHolds ccen s then goOn s else popAndGo (fun _ => bar.toNat) s

/-- CONT (R293): `next = mic + 1`. -/
def execCiCont (s : State) : Result :=
  goOn s

/-- `ci` = 0101 (R294): invalid, `mic` and the stack unchanged. -/
def execCiInvalid0101 (s : State) : Result :=
  raise .invalidControllerInstruction s

/-- `ci` = 0110 (R294): invalid, `mic` and the stack unchanged. -/
def execCiInvalid0110 (s : State) : Result :=
  raise .invalidControllerInstruction s

/-- `ci` = 0111 (R294): invalid, `mic` and the stack unchanged. -/
def execCiInvalid0111 (s : State) : Result :=
  raise .invalidControllerInstruction s

/-- `ci` = 1000 (R294): invalid, `mic` and the stack unchanged. -/
def execCiInvalid1000 (s : State) : Result :=
  raise .invalidControllerInstruction s

/-- `ci` = 1001 (R294): invalid, `mic` and the stack unchanged. -/
def execCiInvalid1001 (s : State) : Result :=
  raise .invalidControllerInstruction s

/-- `ci` = 1100 (R294): invalid, `mic` and the stack unchanged. -/
def execCiInvalid1100 (s : State) : Result :=
  raise .invalidControllerInstruction s

/-- `ci` = 1101 (R294): invalid, `mic` and the stack unchanged. -/
def execCiInvalid1101 (s : State) : Result :=
  raise .invalidControllerInstruction s

/-- `ci` = 1111 (R294): invalid, `mic` and the stack unchanged. -/
def execCiInvalid1111 (s : State) : Result :=
  raise .invalidControllerInstruction s

end Sys2Proof.Machine
end

