-- ==== Sys2Proof/Machine/StatusUnit.lean ====
section
/-! DEFINITION. The meanings of the status unit: source, condition and latches (R242 to R255). -/

namespace Sys2Proof.Machine

/-- `sel` = 10 (R243): the condition source is `uS`, before the latch of this cycle (R253). -/
def execSelMicro (s : State) : Result :=
  .next (s.setSig { s.sig with src := some s.uS })

/-- `sel` = 01 (R244): the condition source is `MS`, before the latch of this cycle (R253). -/
def execSelMacro (s : State) : Result :=
  .next (s.setSig { s.sig with src := some s.mS })

/-- `sel` = 00 (R245): there is no source. -/
def execSelNone (s : State) : Result :=
  .next (s.setSig { s.sig with src := none })

/-- `sel` = 11 (R242): the fault comes before any condition or latch. -/
def execSelIllegal (s : State) : Result :=
  raise .illegalStatusSelect s

/-- `cop` = 0x04 (R246): not Z. -/
def execCopNz (s : State) : Result :=
  latchCondition (fun _ z => !z) s

/-- `cop` = 0x05 (R247): Z. -/
def execCopZ (s : State) : Result :=
  latchCondition (fun _ z => z) s

/-- `cop` = 0x0A (R248): not C. -/
def execCopNc (s : State) : Result :=
  latchCondition (fun c _ => !c) s

/-- `cop` = 0x0B (R249): C. -/
def execCopC (s : State) : Result :=
  latchCondition (fun c _ => c) s

/-- `cop` = 0x0C (R250): (not C) and (not Z). -/
def execCopNcAndNz (s : State) : Result :=
  latchCondition (fun c z => !c && !z) s

/-- `cop` = 0x0D (R251): C or Z. -/
def execCopCOrZ (s : State) : Result :=
  latchCondition (fun c z => c || z) s

/-- `cop` = 0x00 (R252): the condition is 0. -/
def execCopOther00 (s : State) : Result :=
  latchCondition (fun _ _ => false) s

/-- `cop` = 0x01 (R252): the condition is 0. -/
def execCopOther01 (s : State) : Result :=
  latchCondition (fun _ _ => false) s

/-- `cop` = 0x02 (R252): the condition is 0. -/
def execCopOther02 (s : State) : Result :=
  latchCondition (fun _ _ => false) s

/-- `cop` = 0x03 (R252): the condition is 0. -/
def execCopOther03 (s : State) : Result :=
  latchCondition (fun _ _ => false) s

/-- `cop` = 0x06 (R252): the condition is 0. -/
def execCopOther06 (s : State) : Result :=
  latchCondition (fun _ _ => false) s

/-- `cop` = 0x07 (R252): the condition is 0. -/
def execCopOther07 (s : State) : Result :=
  latchCondition (fun _ _ => false) s

/-- `cop` = 0x08 (R252): the condition is 0. -/
def execCopOther08 (s : State) : Result :=
  latchCondition (fun _ _ => false) s

/-- `cop` = 0x09 (R252): the condition is 0. -/
def execCopOther09 (s : State) : Result :=
  latchCondition (fun _ _ => false) s

/-- `cop` = 0x0E (R252): the condition is 0. -/
def execCopOther0E (s : State) : Result :=
  latchCondition (fun _ _ => false) s

/-- `cop` = 0x0F (R252): the condition is 0. -/
def execCopOther0F (s : State) : Result :=
  latchCondition (fun _ _ => false) s

/-- `cop` = 0x10 (R252): the condition is 0. -/
def execCopOther10 (s : State) : Result :=
  latchCondition (fun _ _ => false) s

/-- `cop` = 0x11 (R252): the condition is 0. -/
def execCopOther11 (s : State) : Result :=
  latchCondition (fun _ _ => false) s

/-- `cop` = 0x12 (R252): the condition is 0. -/
def execCopOther12 (s : State) : Result :=
  latchCondition (fun _ _ => false) s

/-- `cop` = 0x13 (R252): the condition is 0. -/
def execCopOther13 (s : State) : Result :=
  latchCondition (fun _ _ => false) s

/-- `cop` = 0x14 (R252): the condition is 0. -/
def execCopOther14 (s : State) : Result :=
  latchCondition (fun _ _ => false) s

/-- `cop` = 0x15 (R252): the condition is 0. -/
def execCopOther15 (s : State) : Result :=
  latchCondition (fun _ _ => false) s

/-- `cop` = 0x16 (R252): the condition is 0. -/
def execCopOther16 (s : State) : Result :=
  latchCondition (fun _ _ => false) s

/-- `cop` = 0x17 (R252): the condition is 0. -/
def execCopOther17 (s : State) : Result :=
  latchCondition (fun _ _ => false) s

/-- `cop` = 0x18 (R252): the condition is 0. -/
def execCopOther18 (s : State) : Result :=
  latchCondition (fun _ _ => false) s

/-- `cop` = 0x19 (R252): the condition is 0. -/
def execCopOther19 (s : State) : Result :=
  latchCondition (fun _ _ => false) s

/-- `cop` = 0x1A (R252): the condition is 0. -/
def execCopOther1A (s : State) : Result :=
  latchCondition (fun _ _ => false) s

/-- `cop` = 0x1B (R252): the condition is 0. -/
def execCopOther1B (s : State) : Result :=
  latchCondition (fun _ _ => false) s

/-- `cop` = 0x1C (R252): the condition is 0. -/
def execCopOther1C (s : State) : Result :=
  latchCondition (fun _ _ => false) s

/-- `cop` = 0x1D (R252): the condition is 0. -/
def execCopOther1D (s : State) : Result :=
  latchCondition (fun _ _ => false) s

/-- `cop` = 0x1E (R252): the condition is 0. -/
def execCopOther1E (s : State) : Result :=
  latchCondition (fun _ _ => false) s

/-- `cop` = 0x1F (R252): the condition is 0. -/
def execCopOther1F (s : State) : Result :=
  latchCondition (fun _ _ => false) s

/-- `cop` = 0x20 (R252): the condition is 0. -/
def execCopOther20 (s : State) : Result :=
  latchCondition (fun _ _ => false) s

/-- `cop` = 0x21 (R252): the condition is 0. -/
def execCopOther21 (s : State) : Result :=
  latchCondition (fun _ _ => false) s

/-- `cop` = 0x22 (R252): the condition is 0. -/
def execCopOther22 (s : State) : Result :=
  latchCondition (fun _ _ => false) s

/-- `cop` = 0x23 (R252): the condition is 0. -/
def execCopOther23 (s : State) : Result :=
  latchCondition (fun _ _ => false) s

/-- `cop` = 0x24 (R252): the condition is 0. -/
def execCopOther24 (s : State) : Result :=
  latchCondition (fun _ _ => false) s

/-- `cop` = 0x25 (R252): the condition is 0. -/
def execCopOther25 (s : State) : Result :=
  latchCondition (fun _ _ => false) s

/-- `cop` = 0x26 (R252): the condition is 0. -/
def execCopOther26 (s : State) : Result :=
  latchCondition (fun _ _ => false) s

/-- `cop` = 0x27 (R252): the condition is 0. -/
def execCopOther27 (s : State) : Result :=
  latchCondition (fun _ _ => false) s

/-- `cop` = 0x28 (R252): the condition is 0. -/
def execCopOther28 (s : State) : Result :=
  latchCondition (fun _ _ => false) s

/-- `cop` = 0x29 (R252): the condition is 0. -/
def execCopOther29 (s : State) : Result :=
  latchCondition (fun _ _ => false) s

/-- `cop` = 0x2A (R252): the condition is 0. -/
def execCopOther2A (s : State) : Result :=
  latchCondition (fun _ _ => false) s

/-- `cop` = 0x2B (R252): the condition is 0. -/
def execCopOther2B (s : State) : Result :=
  latchCondition (fun _ _ => false) s

/-- `cop` = 0x2C (R252): the condition is 0. -/
def execCopOther2C (s : State) : Result :=
  latchCondition (fun _ _ => false) s

/-- `cop` = 0x2D (R252): the condition is 0. -/
def execCopOther2D (s : State) : Result :=
  latchCondition (fun _ _ => false) s

/-- `cop` = 0x2E (R252): the condition is 0. -/
def execCopOther2E (s : State) : Result :=
  latchCondition (fun _ _ => false) s

/-- `cop` = 0x2F (R252): the condition is 0. -/
def execCopOther2F (s : State) : Result :=
  latchCondition (fun _ _ => false) s

/-- `cop` = 0x30 (R252): the condition is 0. -/
def execCopOther30 (s : State) : Result :=
  latchCondition (fun _ _ => false) s

/-- `cop` = 0x31 (R252): the condition is 0. -/
def execCopOther31 (s : State) : Result :=
  latchCondition (fun _ _ => false) s

/-- `cop` = 0x32 (R252): the condition is 0. -/
def execCopOther32 (s : State) : Result :=
  latchCondition (fun _ _ => false) s

/-- `cop` = 0x33 (R252): the condition is 0. -/
def execCopOther33 (s : State) : Result :=
  latchCondition (fun _ _ => false) s

/-- `cop` = 0x34 (R252): the condition is 0. -/
def execCopOther34 (s : State) : Result :=
  latchCondition (fun _ _ => false) s

/-- `cop` = 0x35 (R252): the condition is 0. -/
def execCopOther35 (s : State) : Result :=
  latchCondition (fun _ _ => false) s

/-- `cop` = 0x36 (R252): the condition is 0. -/
def execCopOther36 (s : State) : Result :=
  latchCondition (fun _ _ => false) s

/-- `cop` = 0x37 (R252): the condition is 0. -/
def execCopOther37 (s : State) : Result :=
  latchCondition (fun _ _ => false) s

/-- `cop` = 0x38 (R252): the condition is 0. -/
def execCopOther38 (s : State) : Result :=
  latchCondition (fun _ _ => false) s

/-- `cop` = 0x39 (R252): the condition is 0. -/
def execCopOther39 (s : State) : Result :=
  latchCondition (fun _ _ => false) s

/-- `cop` = 0x3A (R252): the condition is 0. -/
def execCopOther3A (s : State) : Result :=
  latchCondition (fun _ _ => false) s

/-- `cop` = 0x3B (R252): the condition is 0. -/
def execCopOther3B (s : State) : Result :=
  latchCondition (fun _ _ => false) s

/-- `cop` = 0x3C (R252): the condition is 0. -/
def execCopOther3C (s : State) : Result :=
  latchCondition (fun _ _ => false) s

/-- `cop` = 0x3D (R252): the condition is 0. -/
def execCopOther3D (s : State) : Result :=
  latchCondition (fun _ _ => false) s

/-- `cop` = 0x3E (R252): the condition is 0. -/
def execCopOther3E (s : State) : Result :=
  latchCondition (fun _ _ => false) s

/-- `cop` = 0x3F (R252): the condition is 0. -/
def execCopOther3F (s : State) : Result :=
  latchCondition (fun _ _ => false) s

/-- `srM` = 1 (R254): `MS <- flags`. -/
def execSrMacroLatch (s : State) : Result :=
  .next (s.setMS s.sig.flags)

/-- `srm` = 1 (R255): `uS <- flags`. -/
def execSrMicroLatch (s : State) : Result :=
  .next (s.setUS s.sig.flags)

/-- `sscu` bits 9:6 (R104): no rule reads them (log 14). -/
def execSscuUnread (_unread : BitVec 4) (s : State) : Result :=
  .next s

end Sys2Proof.Machine
end

