-- ==== Sys2Proof/Machine/Dispatch.lean ====
section
/-! DEFINITION. `exec`: one arm for each row of spec/opcode_table.json. -/

namespace Sys2Proof.Machine

open Sys2Proof

def exec (i : Instr) (s : State) : Host.Outcome State Fault Refusal :=
  match i with
  | .halt => Sys2Proof.Machine.execHalt s
  | .ciReset => Sys2Proof.Machine.execCiReset s
  | .ciCjs bar ccen => Sys2Proof.Machine.execCiCjs bar ccen s
  | .ciJmap => Sys2Proof.Machine.execCiJmap s
  | .ciCjp bar ccen => Sys2Proof.Machine.execCiCjp bar ccen s
  | .ciPush bar => Sys2Proof.Machine.execCiPush bar s
  | .ciCrtn ccen => Sys2Proof.Machine.execCiCrtn ccen s
  | .ciCjpp bar ccen => Sys2Proof.Machine.execCiCjpp bar ccen s
  | .ciCont => Sys2Proof.Machine.execCiCont s
  | .ciInvalid0101 => Sys2Proof.Machine.execCiInvalid0101 s
  | .ciInvalid0110 => Sys2Proof.Machine.execCiInvalid0110 s
  | .ciInvalid0111 => Sys2Proof.Machine.execCiInvalid0111 s
  | .ciInvalid1000 => Sys2Proof.Machine.execCiInvalid1000 s
  | .ciInvalid1001 => Sys2Proof.Machine.execCiInvalid1001 s
  | .ciInvalid1100 => Sys2Proof.Machine.execCiInvalid1100 s
  | .ciInvalid1101 => Sys2Proof.Machine.execCiInvalid1101 s
  | .ciInvalid1111 => Sys2Proof.Machine.execCiInvalid1111 s
  | .icNone => Sys2Proof.Machine.execIcNone s
  | .icAbusPc => Sys2Proof.Machine.execIcAbusPc s
  | .icPcInc => Sys2Proof.Machine.execIcPcInc s
  | .icDbusPc => Sys2Proof.Machine.execIcDbusPc s
  | .icPcDbus => Sys2Proof.Machine.execIcPcDbus s
  | .icMalformed0011 => Sys2Proof.Machine.execIcMalformed0011 s
  | .icMalformed0101 => Sys2Proof.Machine.execIcMalformed0101 s
  | .icMalformed0110 => Sys2Proof.Machine.execIcMalformed0110 s
  | .icMalformed0111 => Sys2Proof.Machine.execIcMalformed0111 s
  | .icMalformed1001 => Sys2Proof.Machine.execIcMalformed1001 s
  | .icMalformed1010 => Sys2Proof.Machine.execIcMalformed1010 s
  | .icMalformed1011 => Sys2Proof.Machine.execIcMalformed1011 s
  | .icMalformed1100 => Sys2Proof.Machine.execIcMalformed1100 s
  | .icMalformed1101 => Sys2Proof.Machine.execIcMalformed1101 s
  | .icMalformed1110 => Sys2Proof.Machine.execIcMalformed1110 s
  | .icMalformed1111 => Sys2Proof.Machine.execIcMalformed1111 s
  | .dsAq => Sys2Proof.Machine.execDsAq s
  | .dsAb => Sys2Proof.Machine.execDsAb s
  | .dsZq => Sys2Proof.Machine.execDsZq s
  | .dsZb => Sys2Proof.Machine.execDsZb s
  | .dsZa => Sys2Proof.Machine.execDsZa s
  | .dsDa => Sys2Proof.Machine.execDsDa s
  | .dsDq => Sys2Proof.Machine.execDsDq s
  | .dsDz => Sys2Proof.Machine.execDsDz s
  | .opAdd => Sys2Proof.Machine.execOpAdd s
  | .opSubr => Sys2Proof.Machine.execOpSubr s
  | .opSubs => Sys2Proof.Machine.execOpSubs s
  | .opOr => Sys2Proof.Machine.execOpOr s
  | .opAnd => Sys2Proof.Machine.execOpAnd s
  | .opNotrs => Sys2Proof.Machine.execOpNotrs s
  | .opExor => Sys2Proof.Machine.execOpExor s
  | .opExnor => Sys2Proof.Machine.execOpExnor s
  | .rsNone => Sys2Proof.Machine.execRsNone s
  | .rsAcc => Sys2Proof.Machine.execRsAcc s
  | .rsRegPass => Sys2Proof.Machine.execRsRegPass s
  | .rsReg => Sys2Proof.Machine.execRsReg s
  | .rsIllegal4 => Sys2Proof.Machine.execRsIllegal4 s
  | .rsIllegal5 => Sys2Proof.Machine.execRsIllegal5 s
  | .rsIllegal6 => Sys2Proof.Machine.execRsIllegal6 s
  | .rsIllegal7 => Sys2Proof.Machine.execRsIllegal7 s
  | .yMuxNone => Sys2Proof.Machine.execYMuxNone s
  | .yMuxAbus => Sys2Proof.Machine.execYMuxAbus s
  | .yMuxDbus => Sys2Proof.Machine.execYMuxDbus s
  | .yMuxAbusDbus => Sys2Proof.Machine.execYMuxAbusDbus s
  | .selMicro => Sys2Proof.Machine.execSelMicro s
  | .selMacro => Sys2Proof.Machine.execSelMacro s
  | .selNone => Sys2Proof.Machine.execSelNone s
  | .selIllegal => Sys2Proof.Machine.execSelIllegal s
  | .copNz => Sys2Proof.Machine.execCopNz s
  | .copZ => Sys2Proof.Machine.execCopZ s
  | .copNc => Sys2Proof.Machine.execCopNc s
  | .copC => Sys2Proof.Machine.execCopC s
  | .copNcAndNz => Sys2Proof.Machine.execCopNcAndNz s
  | .copCOrZ => Sys2Proof.Machine.execCopCOrZ s
  | .copOther00 => Sys2Proof.Machine.execCopOther00 s
  | .copOther01 => Sys2Proof.Machine.execCopOther01 s
  | .copOther02 => Sys2Proof.Machine.execCopOther02 s
  | .copOther03 => Sys2Proof.Machine.execCopOther03 s
  | .copOther06 => Sys2Proof.Machine.execCopOther06 s
  | .copOther07 => Sys2Proof.Machine.execCopOther07 s
  | .copOther08 => Sys2Proof.Machine.execCopOther08 s
  | .copOther09 => Sys2Proof.Machine.execCopOther09 s
  | .copOther0E => Sys2Proof.Machine.execCopOther0E s
  | .copOther0F => Sys2Proof.Machine.execCopOther0F s
  | .copOther10 => Sys2Proof.Machine.execCopOther10 s
  | .copOther11 => Sys2Proof.Machine.execCopOther11 s
  | .copOther12 => Sys2Proof.Machine.execCopOther12 s
  | .copOther13 => Sys2Proof.Machine.execCopOther13 s
  | .copOther14 => Sys2Proof.Machine.execCopOther14 s
  | .copOther15 => Sys2Proof.Machine.execCopOther15 s
  | .copOther16 => Sys2Proof.Machine.execCopOther16 s
  | .copOther17 => Sys2Proof.Machine.execCopOther17 s
  | .copOther18 => Sys2Proof.Machine.execCopOther18 s
  | .copOther19 => Sys2Proof.Machine.execCopOther19 s
  | .copOther1A => Sys2Proof.Machine.execCopOther1A s
  | .copOther1B => Sys2Proof.Machine.execCopOther1B s
  | .copOther1C => Sys2Proof.Machine.execCopOther1C s
  | .copOther1D => Sys2Proof.Machine.execCopOther1D s
  | .copOther1E => Sys2Proof.Machine.execCopOther1E s
  | .copOther1F => Sys2Proof.Machine.execCopOther1F s
  | .copOther20 => Sys2Proof.Machine.execCopOther20 s
  | .copOther21 => Sys2Proof.Machine.execCopOther21 s
  | .copOther22 => Sys2Proof.Machine.execCopOther22 s
  | .copOther23 => Sys2Proof.Machine.execCopOther23 s
  | .copOther24 => Sys2Proof.Machine.execCopOther24 s
  | .copOther25 => Sys2Proof.Machine.execCopOther25 s
  | .copOther26 => Sys2Proof.Machine.execCopOther26 s
  | .copOther27 => Sys2Proof.Machine.execCopOther27 s
  | .copOther28 => Sys2Proof.Machine.execCopOther28 s
  | .copOther29 => Sys2Proof.Machine.execCopOther29 s
  | .copOther2A => Sys2Proof.Machine.execCopOther2A s
  | .copOther2B => Sys2Proof.Machine.execCopOther2B s
  | .copOther2C => Sys2Proof.Machine.execCopOther2C s
  | .copOther2D => Sys2Proof.Machine.execCopOther2D s
  | .copOther2E => Sys2Proof.Machine.execCopOther2E s
  | .copOther2F => Sys2Proof.Machine.execCopOther2F s
  | .copOther30 => Sys2Proof.Machine.execCopOther30 s
  | .copOther31 => Sys2Proof.Machine.execCopOther31 s
  | .copOther32 => Sys2Proof.Machine.execCopOther32 s
  | .copOther33 => Sys2Proof.Machine.execCopOther33 s
  | .copOther34 => Sys2Proof.Machine.execCopOther34 s
  | .copOther35 => Sys2Proof.Machine.execCopOther35 s
  | .copOther36 => Sys2Proof.Machine.execCopOther36 s
  | .copOther37 => Sys2Proof.Machine.execCopOther37 s
  | .copOther38 => Sys2Proof.Machine.execCopOther38 s
  | .copOther39 => Sys2Proof.Machine.execCopOther39 s
  | .copOther3A => Sys2Proof.Machine.execCopOther3A s
  | .copOther3B => Sys2Proof.Machine.execCopOther3B s
  | .copOther3C => Sys2Proof.Machine.execCopOther3C s
  | .copOther3D => Sys2Proof.Machine.execCopOther3D s
  | .copOther3E => Sys2Proof.Machine.execCopOther3E s
  | .copOther3F => Sys2Proof.Machine.execCopOther3F s
  | .mweRead => Sys2Proof.Machine.execMweRead s
  | .mweWrite => Sys2Proof.Machine.execMweWrite s
  | .irLoad => Sys2Proof.Machine.execIrLoad s
  | .srMacroLatch => Sys2Proof.Machine.execSrMacroLatch s
  | .srMicroLatch => Sys2Proof.Machine.execSrMicroLatch s
  | .aMuxField ra => Sys2Proof.Machine.execAMuxField ra s
  | .aMuxIr => Sys2Proof.Machine.execAMuxIr s
  | .bMuxField rb => Sys2Proof.Machine.execBMuxField rb s
  | .bMuxIr => Sys2Proof.Machine.execBMuxIr s
  | .kMuxConst k => Sys2Proof.Machine.execKMuxConst k s
  | .kMuxDbus => Sys2Proof.Machine.execKMuxDbus s
  | .sscuUnread unread => Sys2Proof.Machine.execSscuUnread unread s
  | .macNoInstruction regA regB => Sys2Proof.Machine.execMacNoInstruction regA regB s
  | .macMovRegReg regA regB => Sys2Proof.Machine.execMacMovRegReg regA regB s
  | .macMovConstReg regA regB => Sys2Proof.Machine.execMacMovConstReg regA regB s
  | .macMovLoad regA regB => Sys2Proof.Machine.execMacMovLoad regA regB s
  | .macMovStore regA regB => Sys2Proof.Machine.execMacMovStore regA regB s
  | .macAdd regA regB => Sys2Proof.Machine.execMacAdd regA regB s
  | .macSub regA regB => Sys2Proof.Machine.execMacSub regA regB s
  | .macCmp regA regB => Sys2Proof.Machine.execMacCmp regA regB s
  | .macXor regA regB => Sys2Proof.Machine.execMacXor regA regB s
  | .macTest regA regB => Sys2Proof.Machine.execMacTest regA regB s
  | .macJmpReg regA regB => Sys2Proof.Machine.execMacJmpReg regA regB s
  | .macJmpConst regA regB => Sys2Proof.Machine.execMacJmpConst regA regB s
  | .macJzReg regA regB => Sys2Proof.Machine.execMacJzReg regA regB s
  | .macJzConst regA regB => Sys2Proof.Machine.execMacJzConst regA regB s
  | .macJlReg regA regB => Sys2Proof.Machine.execMacJlReg regA regB s
  | .macJlConst regA regB => Sys2Proof.Machine.execMacJlConst regA regB s
  | .macJleReg regA regB => Sys2Proof.Machine.execMacJleReg regA regB s
  | .macJleConst regA regB => Sys2Proof.Machine.execMacJleConst regA regB s
  | .macWtf regA regB => Sys2Proof.Machine.execMacWtf regA regB s
  | .macUpp regA regB => Sys2Proof.Machine.execMacUpp regA regB s
  | .macHalt => Sys2Proof.Machine.execMacHalt s

end Sys2Proof.Machine
end

