-- ==== Sys2Proof/Machine/Cycle.lean ====
section
/-! DEFINITION. The microcycle (44_cycle.md): the rows of the fetched word, run in the order of the twelve steps. -/

namespace Sys2Proof.Machine

/-- What comes next in a cycle runs only while the run goes on: a fault ends the cycle at once (R401, R402). -/
def andThen (o : Result) (k : State → Result) : Result :=
  match o with
  | .next s => if s.outcome = .running then k s else .next s
  | .fault r => .fault r
  | .refused r => .refused r

/-- Rows run one after the other, each seeing what the earlier ones wrote (R320). -/
def runOrders : List Instr → State → Result
  | [], s => .next s
  | i :: rest, s => andThen (exec i s) (runOrders rest)

/-- Step 9 (R336): the macro word in `IR` is mapped, through its row where the table of 45_macro_interface.md has one, and
by its opcode alone where it has none (R391). -/
def mapStage (s : State) : Result :=
  match decodeMacro s.ir with
  | .ok i => exec i s
  | .error _ => mapOpcode s

/-- Step 12 (R339): the cycle is complete and counted; no signal is left under way. -/
def endCycle (s : State) : Result := .next ((s.setCycles (s.cycles + 1)).setSig Signals.rest)

/-- Steps 3 to 12 of a cycle (R323 to R339). -/
def runFields (f : Fields) (s : State) : Result :=
  andThen (runOrders f.frontOrders s) fun s =>
    andThen (mapStage s) fun s =>
      andThen (runOrders f.backOrders s) endCycle

/-- One call of `cycle()` (R320 to R339): fetch and decode (R321), halt detection (R322), then steps 3 to 12. -/
def cycle (s : State) : Result :=
  match fetchWord s with
  | none => raise .unmappedMicroAddress s
  | some w =>
    match decodeWord w with
    | .halt => exec .halt s
    | .fields f => runFields f s

/-- One turn of the run loop (R455, R456): a further call of `cycle()` where fewer than `STEP_LIMIT` were made, and
otherwise the end of the run. An ended run stays as it is (R43): a run that halted or met its ceiling rests in its final
state, and a run that faulted answers its fault (log 3). -/
def turn (s : State) : Result :=
  match s.outcome with
  | .running =>
    if s.stepLimit ≤ s.calls then .next (s.setOutcome .stepLimitExceeded)
    else cycle (s.setCalls (s.calls + 1))
  | .halted => .next s
  | .stepLimitExceeded => .next s
  | .faulted k => .fault k

end Sys2Proof.Machine
end

