-- ==== Sys2Proof/Machine/Step.lean ====
section
/-! DEFINITION. One step of the machine, and the placing of an instruction where the next step fetches. -/

namespace Sys2Proof.Machine

/-- One step: one turn of the run loop (R455). -/
def step (s : State) : Host.Outcome State Fault Refusal := turn s

/-- A table row's word where `step` fetches its next instruction: a control word at `mic` in the control store, or a
macro word (16 bits) on the data bus with the word that loads and dispatches it at `mic`. It stands for the host's
loading of a program (R396; log 4, log 5). -/
def State.withFetchWord (s : State) (nbits w : Nat) : State :=
  if nbits = 16 then placeMacro (readyToFetch s) (BitVec.ofNat 16 w)
  else placeControl (readyToFetch s) (BitVec.ofNat 75 w)

end Sys2Proof.Machine
end

