-- ==== Sys2Proof/Machine/HostOps.lean ====
section
/-! DEFINITION. The host operations around a run (R396, R444), the run loop (R455), the snapshot (R49) and the result of a
run (R458), and the placing of a macro program (R77, R394; log 18). -/

namespace Sys2Proof.Machine

/-! ## Construction and loading -/

/-- The control store of a list of entries, refused with `outOfRange` when a word does not fit in 75 bits (R151). The spec
speaks of maps; where the list names one micro-address twice the earlier entry stands, and a word that does not fit is
refused in either (DESIGN CHOICE, log 26). -/
def buildStore : List (MicroAddr × Nat) → Except DecodeError ControlStore
  | [] => .ok []
  | (a, w) :: rest =>
    match buildStore rest with
    | .error e => .error e
    | .ok m => if w < 2 ^ 75 then .ok (insertCell m a.toNat (BitVec.ofNat 75 w)) else .error .outOfRange

/-- The opcode table of a list of entries; the values are 12-bit micro-addresses (R79; log 13). Where the list names one
opcode twice the earlier entry stands (DESIGN CHOICE, log 26). -/
def buildTable : List (BitVec 8 × MicroAddr) → OpcodeTable
  | [] => []
  | (op, a) :: rest => insertCell (buildTable rest) op.toNat a

/-- Construct (R396 (1), R440): the construction state with the caller's read-only maps. Nothing else of the configuration
contract is checked (R395; log 19). -/
def construct (store : List (MicroAddr × Nat)) (table : List (BitVec 8 × MicroAddr)) (stepLimit : Nat) :
    Except DecodeError State :=
  match buildStore store with
  | .error e => .error e
  | .ok m => .ok (((State.reset.setStore m).setProm (buildTable table)).setStepLimit stepLimit)

/-- Bulk-load the register file and the accumulator (R396 (2)). -/
def loadRegisters (regs : Vector Word 16) (acc : Word) (s : State) : State := (s.setRegs regs).setAcc acc

/-- Preset the micro and macro status registers, to any 4-bit values (R396 (3), R33). -/
def presetStatus (uS mS : Status) (s : State) : State := (s.setUS uS).setMS mS

/-- Load the initial data-memory image (R396 (4)); of two words for one address the later stands (DESIGN CHOICE, log 18). -/
def loadImage : List (Word × Word) → State → State
  | [], s => s
  | (a, v) :: rest, s => loadImage rest (s.setMem (s.mem.write a v))

/-- The image of a macro program: its words at 0, 1, 2, ... with the halt word appended (R77, R394; log 18). The addresses
wrap modulo 2^16, so in a program that with its halt word exceeds 65536 words the later words overwrite the first ones
(DESIGN CHOICE, log 27). -/
def programImage (words : List Word) : List (Word × Word) :=
  (words ++ [Config.macroHaltWord]).zipIdx.map fun p => (BitVec.ofNat 16 p.2, p.1)

/-! ## The run -/

/-- At most `n` steps, stopping when the run has ended. -/
def runSteps : Nat → State → State
  | 0, s => s
  | n + 1, s =>
    if s.outcome = .running then
      match step s with
      | .next t => runSteps n t
      | _ => s
    else s

/-- The run loop (R455): `cycle()` is called until the run ends, at most `STEP_LIMIT` times, and then the outcome is
`StepLimitExceeded`. -/
def run (s : State) : State := runSteps (s.stepLimit - s.calls + 1) s

/-! ## The snapshot -/

/-- What the host observes (R49): memory as the map of R70 (its listed words; every other word reads 0), `PC`, `mic` and
`cycles` as the counters, `IR`, both buses, the stack oldest entry first, both status registers, the accumulator and the
sixteen registers (log 22). -/
structure Snapshot where
  mem : Memory
  pc : Word
  mic : Nat
  cycles : Nat
  ir : Word
  abus : Word
  dbus : Word
  stack : List Nat
  uS : Status
  mS : Status
  acc : Word
  regs : Vector Word 16
  deriving DecidableEq, Repr

/-- The snapshot of a state; it changes nothing (R49). -/
def snapshot (s : State) : Snapshot where
  mem := s.mem
  pc := s.pc
  mic := s.mic
  cycles := s.cycles
  ir := s.ir
  abus := s.abus
  dbus := s.dbus
  stack := s.stack
  uS := s.uS
  mS := s.mS
  acc := s.acc
  regs := s.regs

/-- The run's result (R458): the outcome together with the snapshot. -/
def runResult (s : State) : RunOutcome × Snapshot := ((run s).outcome, snapshot (run s))

end Sys2Proof.Machine
end

