-- ==== Sys2Proof/Safety.lean ====
section
/-! DEFINITION. What a good state and a safe run are, in the terms the statements use. -/

namespace Sys2Proof.Machine

/-- The stack holds at most five micro-addresses, each in 0..4096 (R41, R48). -/
def stackOk (s : State) : Prop := s.stack.length ≤ Config.stackDepth ∧ ∀ v ∈ s.stack, v ≤ Config.microSpace

/-- The three maps are in canonical form (R70, R78, R79). -/
def mapsOk (s : State) : Prop := s.mem.wf = true ∧ s.store.wf = true ∧ s.prom.wf = true

/-- The counters agree: a running machine has completed every call it made (R42, R455), and one call was cut short
where the run halted or faulted. -/
def countersOk (s : State) : Prop :=
  s.calls ≤ s.stepLimit ∧
    match s.outcome with
    | .running => s.cycles = s.calls
    | .halted => s.cycles + 1 = s.calls
    | .faulted _ => s.cycles + 1 = s.calls
    | .stepLimitExceeded => s.cycles = s.calls ∧ s.calls = s.stepLimit

/-- The invariant of every state between two cycles. -/
structure StateOk (s : State) : Prop where
  /-- the maps are in canonical form -/
  maps : mapsOk s
  /-- the stack is within its bounds -/
  stack : stackOk s
  /-- `mic` is in 0..4096 (R40) -/
  mic : s.mic ≤ Config.microSpace
  /-- no signal is under way (log 2) -/
  rest : s.sig = Signals.rest
  /-- the counters agree with the outcome -/
  counters : countersOk s

/-- The machine runs, below its step ceiling: the next step calls `cycle()` (R455). -/
def goesOn (s : State) : Prop := s.outcome = .running ∧ s.calls < s.stepLimit

/-- The next cycle of a machine that goes on runs a word with these fields. -/
def runsFields (s : State) (f : Fields) : Prop := goesOn s ∧ (fetchWord s).map decodeWord = some (.fields f)

/-- One completed microcycle of a word with these fields, from `s` to `t`. -/
structure Completes (s t : State) (f : Fields) : Prop where
  /-- the fetched word -/
  fetched : runsFields s f
  /-- the step -/
  stepped : step s = .next t
  /-- neither halted nor faulted -/
  going : t.outcome = .running

/-- Operand index A of a cycle that starts in `s` (R329). -/
def cycleIndexA (f : Fields) (s : State) : RegIx := if f.aMux then f.raAddr else s.ir.extractLsb' 4 4

/-- Operand index B of a cycle that starts in `s` (R329). -/
def cycleIndexB (f : Fields) (s : State) : RegIx := if f.bMux then f.rbAddr else s.ir.extractLsb' 0 4

/-- A run has not ended in a fault. -/
def notFaulted (s : State) : Prop := ∀ k, s.outcome ≠ .faulted k

/-- A safe run: the run from a state ends halted, or at its step ceiling, and not in a fault. -/
def safeRun (s : State) : Prop := notFaulted (run s)

end Sys2Proof.Machine
end

