-- ==== Sys2Proof/Certificates/Slice0/Reference.lean ====
section
/-! DEFINITION. The microcycle written a second time, for the statements only: straight from the numbered rules' pseudocode
(R180 to R204, R240 to R255, R281 to R294, R321 to R339), over the field NUMBERS of the control word, with no row of the
opcode table, no `exec` and no signal; and the values of a microcycle as functions of its fields and of the state it
starts in. The machine does not use this file. -/

namespace Sys2Proof.Reference

open Sys2Proof.Machine

/-- `raise Fault(K)` with the state frozen (R401, R402). -/
def stop (k : Fault) (s : State) : Result := .next { s with outcome := .faulted k, sig := Signals.rest }

/-- The number of bits set in `ic` (R323). -/
def popcount4 (v : BitVec 4) : Nat :=
  (v.getLsbD 0).toNat + (v.getLsbD 1).toNat + (v.getLsbD 2).toNat + (v.getLsbD 3).toNat

/-- Operand R (41_alu.md section 2, the source's first list). -/
def operandR (ds : Nat) (xa d : Word) : Word :=
  if ds = 0 ∨ ds = 1 then xa else if ds = 2 ∨ ds = 3 ∨ ds = 4 then 0 else d

/-- Operand S (41_alu.md section 2, the source's second list). -/
def operandS (ds : Nat) (xa xb acc : Word) : Word :=
  if ds = 0 ∨ ds = 2 ∨ ds = 6 then acc else if ds = 1 ∨ ds = 3 then xb else if ds = 4 ∨ ds = 5 then xa else 0

/-- The raw result (41_alu.md section 3's table). -/
def rawResult (op : Nat) (r s : Word) (cin : Int) : Int :=
  if op = 0 then (r.toNat : Int) + s.toNat + cin
  else if op = 1 then (s.toNat : Int) - r.toNat - cin
  else if op = 2 then (r.toNat : Int) - s.toNat - cin
  else if op = 3 then ((r ||| s).toNat : Int)
  else if op = 4 then ((r &&& s).toNat : Int)
  else if op = 5 then (((r ^^^ 0xFFFF) &&& s).toNat : Int)
  else if op = 6 then ((r ^^^ s).toNat : Int)
  else -((r ^^^ s).toNat : Int) - 1

/-- The flags of a raw result, bit by bit (R199). -/
def flagBits (raw : Int) : Status :=
  BitVec.ofBool (decide (raw > 65535 ∨ raw < 0)) ++ BitVec.ofBool (decide (raw > 65535 ∨ raw < 0))
    ++ BitVec.ofBool (decide (raw < 0)) ++ BitVec.ofBool (decide (raw % 65536 = 0))

/-- The condition bit (R242 to R252). -/
def conditionBit (sel cop : Nat) (uS mS : Status) : Bool :=
  if sel = 0 then false
  else
    let src := if sel = 2 then uS else mS
    let c := src.getLsbD 2
    let z := src.getLsbD 0
    if cop = 0x04 then !z else if cop = 0x05 then z else if cop = 0x0A then !c else if cop = 0x0B then c
    else if cop = 0x0C then (!c && !z) else if cop = 0x0D then (c || z) else false

/-! ## The values of a cycle with legal fields, from the state it starts in -/

/-- The D input: the constant, or `DBUS` after step 3 (R327, R330). -/
def inputD (f : Fields) (s : State) : Word :=
  if f.kMux then f.constant else if f.ic.toNat = 4 then s.pc else s.dbus

/-- Operand R (R182 to R189). -/
def inputR (f : Fields) (s : State) : Word := operandR f.ds.toNat (s.reg (cycleIndexA f s)) (inputD f s)

/-- Operand S (R182 to R189). -/
def inputS (f : Fields) (s : State) : Word :=
  operandS f.ds.toNat (s.reg (cycleIndexA f s)) (s.reg (cycleIndexB f s)) s.acc

/-- The raw result, with the carry-in `uS[2]` (R190 to R197, R241). -/
def rawOf (f : Fields) (s : State) : Int :=
  rawResult f.op.toNat (inputR f s) (inputS f s) (if s.uS.getLsbD 2 then 1 else 0)

/-- The masked result F (R198). -/
def resultF (f : Fields) (s : State) : Word := BitVec.ofInt 16 (rawOf f s)

/-- The flags (R199). -/
def flagsNow (f : Fields) (s : State) : Status := flagBits (rawOf f s)

/-- The ALU output `y` (R200 to R203). -/
def outputY (f : Fields) (s : State) : Word := if f.rs.toNat = 2 then s.reg (cycleIndexA f s) else resultF f s

/-- The registers after step 4 (R200 to R203). -/
def regsAfter (f : Fields) (s : State) : Vector Word 16 :=
  if f.rs.toNat = 2 ∨ f.rs.toNat = 3 then (s.setReg (cycleIndexB f s) (resultF f s)).regs else s.regs

/-- The accumulator after step 4 (R200 to R203). -/
def accAfter (f : Fields) (s : State) : Word := if f.rs.toNat = 1 then resultF f s else s.acc

/-- `ABUS` after step 5 (R325, R332). -/
def abusRouted (f : Fields) (s : State) : Word :=
  if f.yMux.getLsbD 0 then outputY f s else if f.ic.toNat = 1 then s.pc else s.abus

/-- `DBUS` after step 5 (R327, R332). -/
def dbusRouted (f : Fields) (s : State) : Word :=
  if f.yMux.getLsbD 1 then outputY f s else if f.ic.toNat = 4 then s.pc else s.dbus

/-- `PC` after step 6 (R326, R333). -/
def pcAfter (f : Fields) (s : State) : Word :=
  if f.ic.toNat = 2 then s.pc + 1 else if f.ic.toNat = 8 then dbusRouted f s else s.pc

/-- `IR` after step 7 (R334). -/
def irAfter (f : Fields) (s : State) : Word := if f.ir then dbusRouted f s else s.ir

/-- `cond`: `ccen` = 1 and the condition bit is 0 (R253, R282). -/
def condOf (f : Fields) (s : State) : Bool := f.ccen && !conditionBit f.sel.toNat f.cop.toNat s.uS s.mS

/-- The opcode that step 9 maps is 0 or in the table (R336, R371). -/
def opcodeIsMapped (f : Fields) (s : State) : Prop :=
  (irAfter f s).extractLsb' 8 8 = 0 ∨ ∃ a, s.prom.read ((irAfter f s).extractLsb' 8 8) = some a

/-- Steps 3, 4 and 8 raise no fault (R323, R204, R242). -/
def reachesMapping (f : Fields) : Prop := f.ic.toNat ∈ [0, 1, 2, 4, 8] ∧ f.rs.toNat < 4 ∧ f.sel.toNat ≠ 3

/-! ## The cycle -/

/-- Steps 11 and 12 (R338, R339). -/
def finish (mwe : Bool) (s : State) : Result :=
  let s := if mwe then { s with mem := s.mem.write s.abus s.dbus } else { s with dbus := s.mem.read s.abus }
  .next { s with cycles := s.cycles + 1, sig := Signals.rest }

/-- Step 10 (R282 to R296), with steps 11 and 12 after it; `mic + 1` does not wrap (decision D4; log 11), and more than
five entries count as a full stack (DESIGN CHOICE, log 10). -/
def sequence (f : Fields) (cbit : Bool) (mapped : Nat) (s : State) : Result :=
  let cond := f.ccen && !cbit
  let ci := f.ci.toNat
  let bar := f.bar.toNat
  let full : Bool := decide (5 ≤ s.stack.length)
  if ci = 0 then finish f.mwe { s with stack := [], mic := 0 }
  else if ci = 2 then finish f.mwe { s with mic := mapped }
  else if ci = 14 then finish f.mwe { s with mic := s.mic + 1 }
  else if ci = 4 then
    if full then stop .stackOverflow s else finish f.mwe { s with stack := s.stack ++ [bar], mic := s.mic + 1 }
  else if ci = 1 ∨ ci = 3 ∨ ci = 10 ∨ ci = 11 then
    if cond then finish f.mwe { s with mic := s.mic + 1 }
    else if ci = 3 then finish f.mwe { s with mic := bar }
    else if ci = 1 then
      if full then stop .stackOverflow s else finish f.mwe { s with stack := s.stack ++ [s.mic + 1], mic := bar }
    else
      match s.stack.getLast? with
      | none => stop .stackUnderflow s
      | some v => finish f.mwe { s with stack := s.stack.dropLast, mic := if ci = 10 then v else bar }
  else stop .invalidControllerInstruction s

/-- Steps 3 to 12 on the fields of the fetched word (R323 to R339). -/
def fieldsCycle (f : Fields) (s : State) : Result :=
  let ic := f.ic.toNat
  if 1 < popcount4 f.ic then stop .malformedIcField s
  else
    let s :=
      if ic = 1 then { s with abus := s.pc }
      else if ic = 2 then { s with pc := s.pc + 1 }
      else if ic = 4 then { s with dbus := s.pc }
      else s
    let ia := if f.aMux then f.raAddr else s.ir.extractLsb' 4 4
    let ib := if f.bMux then f.rbAddr else s.ir.extractLsb' 0 4
    let d := if f.kMux then f.constant else s.dbus
    let ds := (f.alu.extractLsb' 0 3).toNat
    let op := (f.alu.extractLsb' 3 3).toNat
    let rs := (f.alu.extractLsb' 6 3).toNat
    if 4 ≤ rs then stop .illegalResultSelect s
    else
      let xa := s.reg ia
      let xb := s.reg ib
      let cin : Int := if s.uS.getLsbD 2 then 1 else 0
      let raw := rawResult op (operandR ds xa d) (operandS ds xa xb s.acc) cin
      let fOut := BitVec.ofInt 16 raw
      let flags := flagBits raw
      let y := if rs = 2 then xa else fOut
      let s := if rs = 1 then { s with acc := fOut } else if rs = 2 ∨ rs = 3 then s.setReg ib fOut else s
      let s := if f.yMux.getLsbD 0 then { s with abus := y } else s
      let s := if f.yMux.getLsbD 1 then { s with dbus := y } else s
      let s := if ic = 8 then { s with pc := s.dbus } else s
      let s := if f.ir then { s with ir := s.dbus } else s
      let sel := (f.sscu.extractLsb' 10 2).toNat
      let cop := (f.sscu.extractLsb' 0 6).toNat
      if sel = 3 then stop .illegalStatusSelect s
      else
        let cbit := conditionBit sel cop s.uS s.mS
        let s := if f.srMacro then { s with mS := flags } else s
        let s := if f.srMicro then { s with uS := flags } else s
        let opcode := s.ir.extractLsb' 8 8
        if opcode = 0 then sequence f cbit 0 s
        else
          match s.prom.read opcode with
          | none => stop .unmappedMacroOpcode s
          | some a => sequence f cbit a.toNat s

/-- One call of `cycle()` (R320 to R339). -/
def cycle (s : State) : Result :=
  match s.store.read s.mic with
  | none => stop .unmappedMicroAddress s
  | some w =>
    if w.toNat = 2 ^ 75 - 1 then .next { s with outcome := .halted } else fieldsCycle (extractFields w) s

end Sys2Proof.Reference
end

