-- ==== Sys2Proof/Certificates/Slice0/Obligations.lean ====
section
/-! DEFINITION. The statements for the provers. Each docstring names the rules it rests on; OBLIGATIONS.json lists them. -/

open Sys2Proof Sys2Proof.Machine

/-- Decode and encode agree on every row of the opcode table (R101, R103, R104, R105, R106, R107, R108, R109, R113; that WellFormed asks for 0 in a macro field which the form does not name is the spec's decision D19, log 20). -/
def Obligations.DecodeEncodeAgree : Prop :=
  ∀ i : Instr, WellFormed i → decodeEncoded i.family (encode i) = some i

/-- The seventeen fields lose no bit of a control word (R101, R102, R150). -/
def Obligations.FieldsCoverTheControlWord : Prop :=
  ∀ w : ControlWord, (extractFields w).toWord = w

/-- No two control words decode alike, and only the all-ones word is HALT (R110, R116, R150). -/
def Obligations.DecodingIsInjective : Prop :=
  (∀ v w : ControlWord, decodeWord v = decodeWord w → v = w) ∧
    (∀ w : ControlWord, decodeWord w = .halt ↔ w.toNat = 2 ^ 75 - 1) ∧
    (∀ w : ControlWord, w.toNat ≠ 2 ^ 75 - 1 → decodeWord w = .fields (extractFields w))

/-- Words written out from the encoding tables decode to what they stand for (R9, R10, R101, R110, R113, R115, R150, R325, R293, R372, R381; the order of bits and of binary digits is the spec's decisions D1 and D2, log 16; that JMP regB is written with 0 for regA is its decision D19, log 20). -/
def Obligations.HandWrittenWordsDecode : Prop :=
  decodeWord 0x40155BE00C001104141#75 = .fields
      { mwe := true, bar := 0x105, ci := 4, srMicro := true, yMux := 2, bMux := true, alu := 0xDF, constant := 0x55, kMux := true } ∧
    decodeRow .ic 0x380004#75 = some .icAbusPc ∧ decodeRow .ci 0x380004#75 = some .ciCont ∧
    decodeWord 0x7FFFFFFFFFFFFFFFFFF#75 = .halt ∧
    decodeMacro 0x0112 = .ok (.macMovRegReg 1 2) ∧ decodeMacro 0x0A07 = .ok (.macJmpReg 0 7)

/-- Construction fails with OutOfRange exactly when a word does not fit in 75 bits (R151, R395, R406; that construction succeeds otherwise, with nothing else checked, is the spec's decision D14, log 19; that in a list which names one micro-address twice every word is checked, the one that does not stand too, is the model's choice, log 26). -/
def Obligations.OversizedWordIsRefused : Prop :=
  ∀ (store : List (MicroAddr × Nat)) (table : List (BitVec 8 × MicroAddr)) (limit : Nat),
    ((∃ e ∈ store, 2 ^ 75 ≤ e.2) → construct store table limit = .error .outOfRange) ∧
      ((∀ e ∈ store, e.2 < 2 ^ 75) → ∃ s, construct store table limit = .ok s)

/-- A macro instruction with its literal reads back from a macro program (R113, R114, R392). -/
def Obligations.MacroProgramReadsBack : Prop :=
  (∀ (i : Instr) (w : Word) (lit : Option Word) (rest : List Word),
      encode i = .macroWord w → lit.isSome = i.hasLiteral →
        decodeMacroWords (macroWords w lit ++ rest) = .ok (some (i, lit, rest))) ∧
    (∀ (i : Instr) (w : Word), encode i = .macroWord w →
      (i.hasLiteral = true ↔ (macroOpcode w).toNat ∈ [0x02, 0x0B, 0x0D, 0x0F, 0x11]))

/-- A macro program's words stand at 0, 1, 2, ... with the halt word after them (R77, R394; the placement is the spec's decision D8, log 18). -/
def Obligations.ProgramImageReadsBack : Prop :=
  ∀ words : List Word, words.length < 65536 →
    (∀ (n : Nat) (h : n < words.length),
        (loadImage (programImage words) State.reset).mem.read (BitVec.ofNat 16 n) = words[n]) ∧
      (loadImage (programImage words) State.reset).mem.read (BitVec.ofNat 16 words.length) = 0xFF00

/-- A step runs the rows of the fetched word, in order (R320, R321, R322, R336, R455; that a cycle is a run of rows in list order is the model's choice, log 1; that step 9 runs the macro row in IR is its reading, log 5; that the call is counted when made is the spec's decision D11, log 12). -/
def Obligations.StepRunsTheDecodedInstruction : Prop :=
  (∀ (s : State) (w : ControlWord), goesOn s → fetchWord s = some w →
      (decodeWord w = .halt → step s = exec .halt (s.setCalls (s.calls + 1))) ∧
        ∀ f, decodeWord w = .fields f →
          step s = andThen (runOrders f.frontOrders (s.setCalls (s.calls + 1))) fun a =>
            andThen (mapStage a) fun b => andThen (runOrders f.backOrders b) endCycle) ∧
    (∀ (i : Instr) (rest : List Instr) (s t : State), exec i s = .next t →
      runOrders (i :: rest) s = if t.outcome = .running then runOrders rest t else .next t) ∧
    (∀ (i : Instr) (s : State), decodeMacro s.ir = .ok i → mapStage s = exec i s)

/-- The cycle built from rows is the cycle of the pseudocode (R182, R190, R199, R202, R242, R253, R282, R286, R323, R332, R336, R338; in both: EXNOR's flags follow decision D3, log 8; mic + 1 does not wrap by decision D4, log 11; a push onto more than five entries, which no run reaches, faults as with five, the model's choice, log 10; the signals are at rest after a cycle, the model's choice, log 2). -/
def Obligations.CycleRefinesThePseudocode : Prop :=
  ∀ s : State, s.outcome = .running → Sys2Proof.Machine.cycle s = Sys2Proof.Reference.cycle s

/-- Every step keeps the state invariant (R40, R41, R48, R70, R78, R79; the canonical form of the three maps, the counters and the signals are the model's: logs 7, 12 and 2; that mic and the entries reach 4096 is the spec's decisions D4 and D24, log 11). -/
def Obligations.StepKeepsTheInvariant : Prop :=
  ∀ s t : State, StateOk s → step s = .next t → StateOk t

/-- The construction state meets the state invariant (R40, R41, R47, R70; the canonical form of the maps, the signals at rest and the counters are the model's: logs 7, 2 and 12; the range of mic is log 11; mic, stack and the empty maps are logs 10 and 4). -/
def Obligations.ResetMeetsTheInvariant : Prop :=
  StateOk State.reset

/-- The values of every piece of state at construction (R7, R47, R440; the values of mic, stack, registers and status are the spec's decisions D5 and D6, logs 10 and 9). -/
def Obligations.ConstructionValues : Prop :=
  State.reset.abus = 0 ∧ State.reset.dbus = 0 ∧ State.reset.ir = 0 ∧ State.reset.pc = 0 ∧
    State.reset.mic = 0 ∧ State.reset.stack = [] ∧ (∀ i, State.reset.reg i = 0) ∧ State.reset.acc = 0 ∧
    State.reset.uS = 0 ∧ State.reset.mS = 0 ∧ (∀ a, State.reset.mem.read a = 0) ∧ State.reset.cycles = 0 ∧
    State.reset.outcome = .running ∧ State.reset.stepLimit = 1000000

/-- No step writes the control store, the opcode table or the step limit (R46, R78, R79, R84). -/
def Obligations.ConfigurationIsReadOnly : Prop :=
  ∀ s t : State, step s = .next t → t.store = s.store ∧ t.prom = s.prom ∧ t.stepLimit = s.stepLimit

/-- No cycle runs after an end of the run (R43, R401, R414; the form of the answer is the model's choice, log 3). -/
def Obligations.EndedRunIsFinal : Prop :=
  ∀ s : State,
    (s.outcome = .halted → step s = .next s) ∧ (s.outcome = .stepLimitExceeded → step s = .next s) ∧
      ∀ k, s.outcome = .faulted k → step s = .fault k

/-- The run loop ends, after at most STEP_LIMIT calls (R455, R456; how calls are counted, and that at most STEP_LIMIT are made, is the spec's decision D11, log 12). -/
def Obligations.RunAlwaysEnds : Prop :=
  ∀ s : State, (run s).outcome ≠ .running ∧ (run s).calls ≤ max s.calls s.stepLimit ∧
    (s.outcome = .running → (run s).outcome = .stepLimitExceeded → s.stepLimit ≤ (run s).calls)

/-- A cycle whose fields are legal completes (R111, R282, R283, R284, R320, R334, R336, R339). -/
def Obligations.LegalCycleCompletes : Prop :=
  ∀ (s : State) (f : Fields), runsFields s f → Sys2Proof.Reference.reachesMapping f →
    f.ci.toNat ∈ [0, 1, 2, 3, 4, 10, 11, 14] → Sys2Proof.Reference.opcodeIsMapped f s →
    (f.ci.toNat = 4 → s.stack.length < 5) →
    (f.ci.toNat = 1 → Sys2Proof.Reference.condOf f s = false → s.stack.length < 5) →
    (f.ci.toNat ∈ [10, 11] → Sys2Proof.Reference.condOf f s = false → s.stack ≠ []) →
      ∃ t, Completes s t f

/-- A completed cycle writes at most one register of the file, and the accumulator and IR only when told to (R31, R32, R36, R202, R203, R207, R329). -/
def Obligations.CompletedCycleRegisters : Prop :=
  ∀ (s t : State) (f : Fields), Completes s t f →
    (∀ i, i ≠ cycleIndexB f s → t.reg i = s.reg i) ∧ (f.rs.toNat ≠ 2 → f.rs.toNat ≠ 3 → t.regs = s.regs) ∧
      (f.rs.toNat ≠ 1 → t.acc = s.acc) ∧ (f.ir = false → t.ir = s.ir)

/-- PC and the address bus change only as ic and y_mux say (R37, R38, R325, R326, R328, R333, R449, R450). -/
def Obligations.CompletedCyclePcAndAddressBus : Prop :=
  ∀ (s t : State) (f : Fields), Completes s t f →
    (f.ic.toNat ≠ 2 → f.ic.toNat ≠ 8 → t.pc = s.pc) ∧
      (f.ic.toNat = 2 → t.pc.toNat = (s.pc.toNat + 1) % 65536) ∧
      (f.ic.toNat = 8 → f.yMux.getLsbD 1 = false → t.pc = s.dbus) ∧
      (f.yMux.getLsbD 0 = false → f.ic.toNat = 1 → t.abus = s.pc) ∧
      (f.yMux.getLsbD 0 = false → f.ic.toNat ≠ 1 → t.abus = s.abus)

/-- Every completed cycle makes exactly one memory access (R39, R72, R73, R327, R332, R338; the canonical form of memory is the model's, log 7; that a read changes no memory is the spec's decision D23, log 21; the reads of old values in y are its decision D21, log 15). -/
def Obligations.CompletedCycleMemory : Prop :=
  ∀ (s t : State) (f : Fields), s.mem.wf = true → Completes s t f →
    (f.mwe = true → t.mem.read t.abus = t.dbus ∧ ∀ a, a ≠ t.abus → t.mem.read a = s.mem.read a) ∧
      (f.mwe = false → (∀ a, t.mem.read a = s.mem.read a) ∧ t.dbus = s.mem.read t.abus) ∧
      (f.mwe = true → f.yMux.getLsbD 1 = false → f.ic.toNat ≠ 4 → t.dbus = s.dbus) ∧
      (f.mwe = true → f.yMux.getLsbD 1 = false → f.ic.toNat = 4 → t.dbus = s.pc) ∧
      (f.mwe = true → f.yMux.getLsbD 1 = true → t.dbus = Sys2Proof.Reference.outputY f s) ∧
      (f.mwe = true → f.yMux = 3 → t.dbus = t.abus)

/-- A completed cycle counts one cycle, and a cut-short call counts none (R42, R339, R402, R456; that every call and only completed cycles are counted is the spec's decision D11, log 12). -/
def Obligations.CompletedCycleCounts : Prop :=
  ∀ s t : State, goesOn s → step s = .next t →
    t.calls = s.calls + 1 ∧ (t.outcome = .running → t.cycles = s.cycles + 1) ∧
      (t.outcome ≠ .running → t.cycles = s.cycles)

/-- Fetching the halt sentinel sets the outcome to Halted and writes nothing else (R322, R455, R456; that the halting call is counted is the spec's decision D11, log 12). -/
def Obligations.HaltSentinelEndsTheRun : Prop :=
  (∀ s : State, exec .halt s = .next (s.setOutcome .halted)) ∧
    ∀ s : State, goesOn s → fetchWord s = some 0x7FFFFFFFFFFFFFFFFFF#75 →
      step s = .next ((s.setCalls (s.calls + 1)).setOutcome .halted)

/-- A fault leaves mic, the stack, memory, cycles and the configuration as they were (R46, R296, R401, R402, R404; the fault record is the spec's decision D10, log 17). -/
def Obligations.FaultFreezesTheState : Prop :=
  ∀ (s t : State) (k : Fault), goesOn s → step s = .next t → t.outcome = .faulted k →
    faultRecord t = some (k, s.mic) ∧ t.mic = s.mic ∧ t.stack = s.stack ∧ t.mem = s.mem ∧ t.cycles = s.cycles ∧
      t.store = s.store ∧ t.prom = s.prom ∧ t.stepLimit = s.stepLimit

/-- The fault reported is the one whose step comes first (R283, R284, R287, R290, R291, R292, R294, R400, R403, R448). -/
def Obligations.FaultPriorityFollowsTheSteps : Prop :=
  ∀ s : State, goesOn s →
    (fetchWord s = none → ∃ t, step s = .next t ∧ t.outcome = .faulted .unmappedMicroAddress) ∧
      ∀ f, runsFields s f →
        (f.ic.toNat ∉ [0, 1, 2, 4, 8] → ∃ t, step s = .next t ∧ t.outcome = .faulted .malformedIcField) ∧
          (f.ic.toNat ∈ [0, 1, 2, 4, 8] → 4 ≤ f.rs.toNat →
            ∃ t, step s = .next t ∧ t.outcome = .faulted .illegalResultSelect) ∧
          (f.ic.toNat ∈ [0, 1, 2, 4, 8] → f.rs.toNat < 4 → f.sel.toNat = 3 →
            ∃ t, step s = .next t ∧ t.outcome = .faulted .illegalStatusSelect) ∧
          (Sys2Proof.Reference.reachesMapping f → ¬ Sys2Proof.Reference.opcodeIsMapped f s →
            ∃ t, step s = .next t ∧ t.outcome = .faulted .unmappedMacroOpcode) ∧
          (Sys2Proof.Reference.reachesMapping f → Sys2Proof.Reference.opcodeIsMapped f s →
            (f.ci.toNat ∈ [5, 6, 7, 8, 9, 12, 13, 15] →
              ∃ t, step s = .next t ∧ t.outcome = .faulted .invalidControllerInstruction) ∧
              (f.ci.toNat = 4 ∨ (f.ci.toNat = 1 ∧ Sys2Proof.Reference.condOf f s = false) → s.stack.length = 5 →
                ∃ t, step s = .next t ∧ t.outcome = .faulted .stackOverflow) ∧
              (f.ci.toNat ∈ [10, 11] → Sys2Proof.Reference.condOf f s = false → s.stack = [] →
                ∃ t, step s = .next t ∧ t.outcome = .faulted .stackUnderflow))

/-- The five legal IC values and the whole of what each changes (R324, R325, R326, R327, R328, R333). -/
def Obligations.IcActionRows : Prop :=
  (∀ s : State, exec .icNone s = .next s ∧ exec .icAbusPc s = .next (s.setAbus s.pc) ∧
      exec .icPcInc s = .next (s.setPc (BitVec.ofNat 16 (s.pc.toNat + 1))) ∧
      exec .icDbusPc s = .next (s.setDbus s.pc) ∧ exec .icPcDbus s = .next (s.setPc s.dbus)) ∧
    (∀ f : Fields, f.ic ≠ 8 → ∃ rest, f.frontOrders = icOrder f.ic :: rest) ∧
    (∀ f : Fields, f.ic = 8 → ∃ before after, f.frontOrders = before ++ [yMuxOrder f.yMux, .icPcDbus] ++ after ∧
      .irLoad ∉ before ∧ .icPcDbus ∉ before ++ after)

/-- Every malformed IC value faults before any IC action (R323, R402; that the signals are at rest after a fault is the model's choice, log 2; that the call is counted is the spec's decision D11, log 12). -/
def Obligations.MalformedIcFaults : Prop :=
  (∀ s : State, ∀ i ∈ ([.icMalformed0011, .icMalformed0101, .icMalformed0110, .icMalformed0111, .icMalformed1001, .icMalformed1010, .icMalformed1011, .icMalformed1100, .icMalformed1101, .icMalformed1110, .icMalformed1111] : List Instr),
      exec i s = .next ((s.setOutcome (.faulted .malformedIcField)).setSig Signals.rest)) ∧
    ∀ (s : State) (f : Fields), runsFields s f → f.ic.toNat ∉ [0, 1, 2, 4, 8] →
      step s = .next (((s.setCalls (s.calls + 1)).setOutcome (.faulted .malformedIcField)).setSig Signals.rest)

/-- The operand indices and the D input (R109, R329, R330). -/
def Obligations.OperandMuxRows : Prop :=
  ∀ s : State,
    (∀ ra, exec (.aMuxField ra) s = .next (s.setSig { s.sig with ia := ra })) ∧
      exec .aMuxIr s = .next (s.setSig { s.sig with ia := s.ir.extractLsb' 4 4 }) ∧
      (∀ rb, exec (.bMuxField rb) s = .next (s.setSig { s.sig with ib := rb })) ∧
      exec .bMuxIr s = .next (s.setSig { s.sig with ib := s.ir.extractLsb' 0 4 }) ∧
      (∀ k, exec (.kMuxConst k) s = .next (s.setSig { s.sig with d := k })) ∧
      exec .kMuxDbus s = .next (s.setSig { s.sig with d := s.dbus })

/-- The eight source selections of the ALU (R182, R183, R184, R185, R186, R187, R188, R189). -/
def Obligations.AluSourceRows : Prop :=
  ∀ s : State,
    exec .dsAq s = .next (s.setSig { s.sig with r := s.reg s.sig.ia, s := s.acc }) ∧
      exec .dsAb s = .next (s.setSig { s.sig with r := s.reg s.sig.ia, s := s.reg s.sig.ib }) ∧
      exec .dsZq s = .next (s.setSig { s.sig with r := 0, s := s.acc }) ∧
      exec .dsZb s = .next (s.setSig { s.sig with r := 0, s := s.reg s.sig.ib }) ∧
      exec .dsZa s = .next (s.setSig { s.sig with r := 0, s := s.reg s.sig.ia }) ∧
      exec .dsDa s = .next (s.setSig { s.sig with r := s.sig.d, s := s.reg s.sig.ia }) ∧
      exec .dsDq s = .next (s.setSig { s.sig with r := s.sig.d, s := s.acc }) ∧
      exec .dsDz s = .next (s.setSig { s.sig with r := s.sig.d, s := 0 })

/-- ADD: the sum with the carry-in, and its flags (R190). -/
def Obligations.AddRow : Prop :=
  ∀ s : State, ∃ fl : Status,
    exec .opAdd s = .next (s.setSig { s.sig with
      f := BitVec.ofNat 16 (s.sig.r.toNat + s.sig.s.toNat + (if s.uS.getLsbD 2 then 1 else 0 : Nat)), flags := fl }) ∧
      (fl.getLsbD 3 = true ↔ 0xFFFF < s.sig.r.toNat + s.sig.s.toNat + (if s.uS.getLsbD 2 then 1 else 0 : Nat)) ∧
      fl.getLsbD 2 = fl.getLsbD 3 ∧ fl.getLsbD 1 = false ∧
      (fl.getLsbD 0 = true ↔ (s.sig.r.toNat + s.sig.s.toNat + (if s.uS.getLsbD 2 then 1 else 0 : Nat)) % 65536 = 0)

/-- SUBR: the difference with the carry-in as a borrow, and its flags (R191). -/
def Obligations.SubrRow : Prop :=
  ∀ s : State, ∃ fl : Status,
    exec .opSubr s = .next (s.setSig { s.sig with
      f := s.sig.s - s.sig.r - BitVec.ofNat 16 (if s.uS.getLsbD 2 then 1 else 0 : Nat), flags := fl }) ∧
      (fl.getLsbD 1 = true ↔ s.sig.s.toNat < s.sig.r.toNat + (if s.uS.getLsbD 2 then 1 else 0 : Nat)) ∧
      fl.getLsbD 2 = fl.getLsbD 1 ∧ fl.getLsbD 3 = fl.getLsbD 1 ∧
      (fl.getLsbD 0 = true ↔ s.sig.s - s.sig.r - BitVec.ofNat 16 (if s.uS.getLsbD 2 then 1 else 0 : Nat) = 0)

/-- SUBS: the difference with the carry-in as a borrow, and its flags (R192). -/
def Obligations.SubsRow : Prop :=
  ∀ s : State, ∃ fl : Status,
    exec .opSubs s = .next (s.setSig { s.sig with
      f := s.sig.r - s.sig.s - BitVec.ofNat 16 (if s.uS.getLsbD 2 then 1 else 0 : Nat), flags := fl }) ∧
      (fl.getLsbD 1 = true ↔ s.sig.r.toNat < s.sig.s.toNat + (if s.uS.getLsbD 2 then 1 else 0 : Nat)) ∧
      fl.getLsbD 2 = fl.getLsbD 1 ∧ fl.getLsbD 3 = fl.getLsbD 1 ∧
      (fl.getLsbD 0 = true ↔ s.sig.r - s.sig.s - BitVec.ofNat 16 (if s.uS.getLsbD 2 then 1 else 0 : Nat) = 0)

/-- OR, AND, NOTRS and EXOR: the bitwise result, and Z as the only flag (R193, R194, R195, R196). -/
def Obligations.LogicRows : Prop :=
  ∀ s : State,
    exec .opOr s = .next (s.setSig { s.sig with
        f := s.sig.r ||| s.sig.s, flags := if s.sig.r ||| s.sig.s = 0 then 0b0001 else 0b0000 }) ∧
      exec .opAnd s = .next (s.setSig { s.sig with
        f := s.sig.r &&& s.sig.s, flags := if s.sig.r &&& s.sig.s = 0 then 0b0001 else 0b0000 }) ∧
      exec .opNotrs s = .next (s.setSig { s.sig with
        f := ~~~s.sig.r &&& s.sig.s, flags := if ~~~s.sig.r &&& s.sig.s = 0 then 0b0001 else 0b0000 }) ∧
      exec .opExor s = .next (s.setSig { s.sig with
        f := s.sig.r ^^^ s.sig.s, flags := if s.sig.r = s.sig.s then 0b0001 else 0b0000 })

/-- EXNOR: the complemented exclusive or, with N, OVR and C always set (R197, R198, R199; the flags N, OVR and C are the spec's decision D3, log 8). -/
def Obligations.ExnorRow : Prop :=
  ∀ s : State, exec .opExnor s = .next (s.setSig { s.sig with
    f := ~~~(s.sig.r ^^^ s.sig.s), flags := if s.sig.r ^^^ s.sig.s = 0xFFFF then 0b1111 else 0b1110 })

/-- The flag values the ALU can produce (R199). -/
def Obligations.AluFlagValues : Prop :=
  ∀ (i : Instr) (s t : State), i.family = .op → exec i s = .next t →
    t.sig.flags ∈ ([0b0000, 0b0001, 0b1100, 0b1101, 0b1110, 0b1111] : List Status) ∧
      t.sig.flags.getLsbD 3 = t.sig.flags.getLsbD 2 ∧
      (t.sig.flags.getLsbD 1 = true → t.sig.flags.getLsbD 3 = true ∧ t.sig.flags.getLsbD 2 = true)

/-- The four destinations and the output y (R200, R201, R202, R203). -/
def Obligations.AluDestinationRows : Prop :=
  (∀ s : State, exec .rsNone s = .next (s.setSig { s.sig with y := s.sig.f }) ∧
      exec .rsAcc s = .next ((s.setAcc s.sig.f).setSig { s.sig with y := s.sig.f }) ∧
      exec .rsRegPass s = .next ((s.setReg s.sig.ib s.sig.f).setSig { s.sig with y := s.reg s.sig.ia }) ∧
      exec .rsReg s = .next ((s.setReg s.sig.ib s.sig.f).setSig { s.sig with y := s.sig.f })) ∧
    ∀ (s : State) (i j : RegIx) (v : Word),
      (s.setReg i v).reg i = v ∧ (j ≠ i → (s.setReg i v).reg j = s.reg j) ∧ s.setReg i v = s.setRegs (s.setReg i v).regs

/-- rs of 4 to 7 faults, with no register, no accumulator and no output written (R204, R402; that the signals are at rest after a fault is the model's choice, log 2). -/
def Obligations.IllegalResultSelectFaults : Prop :=
  (∀ s : State, ∀ i ∈ ([.rsIllegal4, .rsIllegal5, .rsIllegal6, .rsIllegal7] : List Instr), exec i s = .next ((s.setOutcome (.faulted .illegalResultSelect)).setSig Signals.rest)) ∧
    ∀ (s : State) (f : Fields), runsFields s f → f.ic.toNat ∈ [0, 1, 2, 4, 8] → 4 ≤ f.rs.toNat →
      ∃ t, step s = .next t ∧ t.outcome = .faulted .illegalResultSelect ∧ t.regs = s.regs ∧ t.acc = s.acc ∧ t.ir = s.ir ∧
        t.uS = s.uS ∧ t.mS = s.mS ∧ t.mic = s.mic ∧ t.stack = s.stack ∧ t.mem = s.mem ∧ t.sig = Signals.rest

/-- The carry-in is the micro status C bit of the start of the cycle (R190, R191, R192, R198, R201, R202, R203, R205, R206, R241, R254, R446; EXNOR's flags follow decision D3, log 8; the reads of old values decision D21, log 15). -/
def Obligations.CarryInIsThePreviousMicroCarry : Prop :=
  (∀ (s t : State) (f : Fields), Completes s t f →
      (f.rs.toNat = 2 ∨ f.rs.toNat = 3 → t.reg (cycleIndexB f s) = Sys2Proof.Reference.resultF f s) ∧
        (f.rs.toNat = 1 → t.acc = Sys2Proof.Reference.resultF f s) ∧
        (f.srMicro = true → t.uS = Sys2Proof.Reference.flagsNow f s) ∧
        (f.srMacro = true → t.mS = Sys2Proof.Reference.flagsNow f s)) ∧
    ∀ (s : State) (f : Fields),
      (f.op = 0 → Sys2Proof.Reference.resultF f s =
        Sys2Proof.Reference.inputR f s + Sys2Proof.Reference.inputS f s + (if s.uS.getLsbD 2 then 1 else 0)) ∧
        (f.op = 1 → Sys2Proof.Reference.resultF f s =
          Sys2Proof.Reference.inputS f s - Sys2Proof.Reference.inputR f s - (if s.uS.getLsbD 2 then 1 else 0)) ∧
        (f.op = 2 → Sys2Proof.Reference.resultF f s =
          Sys2Proof.Reference.inputR f s - Sys2Proof.Reference.inputS f s - (if s.uS.getLsbD 2 then 1 else 0)) ∧
        (3 ≤ f.op.toNat → ∀ w : Status, Sys2Proof.Reference.resultF f (s.setUS w) = Sys2Proof.Reference.resultF f s ∧
          Sys2Proof.Reference.flagsNow f (s.setUS w) = Sys2Proof.Reference.flagsNow f s)

/-- The four routings of y and the IR load (R106, R332, R334). -/
def Obligations.RoutingAndIrRows : Prop :=
  ∀ s : State, exec .yMuxNone s = .next s ∧ exec .yMuxAbus s = .next (s.setAbus s.sig.y) ∧
    exec .yMuxDbus s = .next (s.setDbus s.sig.y) ∧
    exec .yMuxAbusDbus s = .next ((s.setAbus s.sig.y).setDbus s.sig.y) ∧ exec .irLoad s = .next (s.setIr s.dbus)

/-- A routing of y overrides an IC write of the same bus in the same cycle (R202, R325, R327, R330, R332, R333, R334, R338, R453; the reads of old values in y follow decision D21, log 15). -/
def Obligations.RoutingOverridesTheIcWrite : Prop :=
  (∀ (s t : State) (f : Fields), Completes s t f →
      (f.yMux.getLsbD 0 = true → t.abus = Sys2Proof.Reference.outputY f s) ∧
        (f.yMux.getLsbD 1 = true → f.mwe = true → t.dbus = Sys2Proof.Reference.outputY f s) ∧
        (f.yMux.getLsbD 1 = true → f.ic = 8 → t.pc = Sys2Proof.Reference.outputY f s) ∧
        (f.yMux.getLsbD 1 = true → f.ir = true → t.ir = Sys2Proof.Reference.outputY f s)) ∧
    ∀ (s : State) (f : Fields),
      (f.rs = 2 → Sys2Proof.Reference.outputY f s = s.reg (cycleIndexA f s)) ∧
        (f.rs ≠ 2 → Sys2Proof.Reference.outputY f s = Sys2Proof.Reference.resultF f s) ∧
        (f.rs ≠ 2 → f.ds = 7 → f.op = 3 →
          Sys2Proof.Reference.outputY f s = if f.kMux then f.constant else if f.ic = 4 then s.pc else s.dbus)

/-- An IR load is seen by the same cycle's JMAP (R288, R334, R336, R371, R448). -/
def Obligations.IrLoadIsDispatchedAtOnce : Prop :=
  ∀ (s t : State) (f : Fields), Completes s t f → f.ir = true → f.ci = 2 →
    (f.yMux.getLsbD 1 = false → f.ic.toNat ≠ 4 → t.ir = s.dbus) ∧
      (t.ir.extractLsb' 8 8 = 0 → t.mic = 0) ∧
      (t.ir.extractLsb' 8 8 ≠ 0 → ∃ a, s.prom.read (t.ir.extractLsb' 8 8) = some a ∧ t.mic = a.toNat)

/-- The condition source and the condition of every opcode (R243, R244, R245, R246, R247, R248, R249, R250, R251, R252). -/
def Obligations.ConditionRows : Prop :=
  (∀ s : State, exec .selMicro s = .next (s.setSig { s.sig with src := some s.uS }) ∧
      exec .selMacro s = .next (s.setSig { s.sig with src := some s.mS }) ∧
      exec .selNone s = .next (s.setSig { s.sig with src := none })) ∧
    (∀ i : Instr, i.family = .cop ↔ ∃ v : BitVec 6, copOrder v = i) ∧
    (∀ (s : State) (v : BitVec 6), s.sig.src = none →
      exec (copOrder v) s = .next (s.setSig { s.sig with cbit := false })) ∧
    ∀ (s : State) (v : BitVec 6) (w : Status), s.sig.src = some w →
      exec (copOrder v) s = .next (s.setSig { s.sig with cbit := (
        if v = 0x04 then (!w.getLsbD 0) else if v = 0x05 then w.getLsbD 0
        else if v = 0x0A then (!w.getLsbD 2) else if v = 0x0B then w.getLsbD 2
        else if v = 0x0C then (!w.getLsbD 2 && !w.getLsbD 0) else if v = 0x0D then (w.getLsbD 2 || w.getLsbD 0)
        else false) })

/-- sel = 11 faults before any condition or latch (R242; that the signals are at rest after a fault is the model's choice, log 2). -/
def Obligations.IllegalStatusSelectFaults : Prop :=
  (∀ f : Fields, f.sel = f.sscu.extractLsb' 10 2 ∧ f.cop = f.sscu.extractLsb' 0 6) ∧
    (∀ s : State, exec .selIllegal s = .next ((s.setOutcome (.faulted .illegalStatusSelect)).setSig Signals.rest)) ∧
    ∀ (s : State) (f : Fields), runsFields s f → f.ic.toNat ∈ [0, 1, 2, 4, 8] → f.rs.toNat < 4 → f.sel = 3 →
      ∃ t, step s = .next t ∧ t.outcome = .faulted .illegalStatusSelect ∧ t.uS = s.uS ∧ t.mS = s.mS

/-- The two status latches are independent (R254, R255). -/
def Obligations.StatusLatches : Prop :=
  (∀ s : State, exec .srMacroLatch s = .next (s.setMS s.sig.flags) ∧ exec .srMicroLatch s = .next (s.setUS s.sig.flags)) ∧
    (∀ (s t : State) (f : Fields), Completes s t f →
      (f.srMacro = false → t.mS = s.mS) ∧ (f.srMicro = false → t.uS = s.uS) ∧
        (f.srMacro = true → f.srMicro = true → t.mS = t.uS)) ∧
    ∀ (s s' t t' : State) (f g : Fields), Completes s t f → Completes s' t' g → s' = s.setStore s'.store →
      g = { f with sscu := g.sscu, ccen := g.ccen, srMacro := g.srMacro, srMicro := g.srMicro } →
        (f.srMicro = true → g.srMicro = true → t'.uS = t.uS) ∧ (f.srMacro = true → g.srMacro = true → t'.mS = t.mS)

/-- A condition tests the status as it stood before the cycle's latch (R243, R244, R245, R253, R282, R287, R289, R291, R292, R445; that mic + 1 does not wrap is the spec's decision D4, log 11). -/
def Obligations.ConditionReadsTheOldStatus : Prop :=
  (∀ (s t : State) (f : Fields), Completes s t f → f.ci.toNat ∈ [1, 3, 10, 11] →
      (Sys2Proof.Reference.condOf f s = true → t.mic = s.mic + 1 ∧ t.stack = s.stack) ∧
        (Sys2Proof.Reference.condOf f s = false →
          (f.ci.toNat = 3 → t.mic = f.bar.toNat ∧ t.stack = s.stack) ∧
            (f.ci.toNat = 1 → t.mic = f.bar.toNat ∧ t.stack = s.stack ++ [s.mic + 1]) ∧
            (f.ci.toNat = 10 → s.stack = t.stack ++ [t.mic]) ∧
            (f.ci.toNat = 11 → t.mic = f.bar.toNat ∧ ∃ v, s.stack = t.stack ++ [v]))) ∧
    ∀ (s : State) (f : Fields), f.ccen = true →
      (f.cop = 0x05 → f.sel = 2 → Sys2Proof.Reference.condOf f s = !s.uS.getLsbD 0) ∧
        (f.cop = 0x05 → f.sel = 1 → Sys2Proof.Reference.condOf f s = !s.mS.getLsbD 0) ∧
        (f.sel = 0 → Sys2Proof.Reference.condOf f s = true)

/-- sscu bits 9:6 have no effect (R104, R112; that the bits are ignored is the spec's decision D16, log 14). -/
def Obligations.UnreadBitsHaveNoEffect : Prop :=
  (∀ (u : BitVec 4) (s : State), exec (.sscuUnread u) s = .next s) ∧
    ∀ (f g : Fields) (s : State), s.outcome = .running → g = { f with sscu := g.sscu } → g.sel = f.sel → g.cop = f.cop →
      runFields g s = runFields f s

/-- What the core does with each macro word (R36, R336, R370, R371, R391; that a macro row's meaning in the core is its mapping is the model's reading, log 5). -/
def Obligations.MacroWordsAreMapped : Prop :=
  ∀ (i : Instr) (w : Word) (s : State), encode i = .macroWord w →
    (w.extractLsb' 8 8 = 0 → exec i s = .next ((s.setIr w).setSig { s.sig with mapped := 0 })) ∧
      ∀ a, w.extractLsb' 8 8 ≠ 0 → s.prom.read (w.extractLsb' 8 8) = some a →
        exec i s = .next ((s.setIr w).setSig { s.sig with mapped := a.toNat })

/-- An opcode in IR that is not 0 and not in the table faults in every cycle (R334, R336, R402, R448, R452; that a macro row presents its word in IR is the model's reading, log 5; that the signals are at rest after a fault is the model's choice, log 2). -/
def Obligations.UnmappedMacroOpcodeFaults : Prop :=
  (∀ (i : Instr) (w : Word) (s : State), encode i = .macroWord w → w.extractLsb' 8 8 ≠ 0 →
      s.prom.read (w.extractLsb' 8 8) = none →
        exec i s = .next (((s.setIr w).setOutcome (.faulted .unmappedMacroOpcode)).setSig Signals.rest)) ∧
    (∀ (s : State) (f : Fields), runsFields s f → Sys2Proof.Reference.reachesMapping f →
      ¬ Sys2Proof.Reference.opcodeIsMapped f s →
        ∃ t, step s = .next t ∧ t.outcome = .faulted .unmappedMacroOpcode ∧ t.ir = Sys2Proof.Reference.irAfter f s ∧
          t.mic = s.mic) ∧
    (∀ (s : State) (f : Fields), runsFields s f → Sys2Proof.Reference.reachesMapping f → f.ir = false →
      s.ir.extractLsb' 8 8 ≠ 0 → s.prom.read (s.ir.extractLsb' 8 8) = none →
        ∃ t, step s = .next t ∧ t.outcome = .faulted .unmappedMacroOpcode ∧ t.ir = s.ir ∧ t.mic = s.mic) ∧
    ∀ (s : State) (f : Fields), runsFields s f → Sys2Proof.Reference.reachesMapping f → f.ir = true →
      f.yMux.getLsbD 1 = false → f.ic.toNat ≠ 4 → s.dbus.extractLsb' 8 8 ≠ 0 →
      s.prom.read (s.dbus.extractLsb' 8 8) = none →
        ∃ t, step s = .next t ∧ t.outcome = .faulted .unmappedMacroOpcode ∧ t.ir = s.dbus ∧ t.mic = s.mic

/-- RESET empties the stack and goes to micro-address 0, and resets nothing else (R286). -/
def Obligations.ResetRow : Prop :=
  ∀ s : State, exec .ciReset s = .next ((s.setStack []).setMic 0)

/-- JMAP goes to the mapped address and CONT to the next one (R285, R288, R293; that mic + 1 does not wrap is the spec's decision D4, log 11). -/
def Obligations.JmapAndContRows : Prop :=
  ∀ s : State, exec .ciJmap s = .next (s.setMic s.sig.mapped) ∧ exec .ciCont s = .next (s.setMic (s.mic + 1))

/-- CJP goes to bar, or to mic + 1 where ccen = 1 and cbit = 0, as CJS, CRTN and CJPP do on that path (R282, R287, R289, R291, R292; that mic + 1 does not wrap is the spec's decision D4, log 11). -/
def Obligations.ConditionalJumpRow : Prop :=
  ∀ (bar : BitVec 12) (ccen : Bool) (s : State),
    ((ccen = true ∧ s.sig.cbit = false) → exec (.ciCjp bar ccen) s = .next (s.setMic (s.mic + 1)) ∧
      exec (.ciCjs bar ccen) s = .next (s.setMic (s.mic + 1)) ∧ exec (.ciCrtn ccen) s = .next (s.setMic (s.mic + 1)) ∧
      exec (.ciCjpp bar ccen) s = .next (s.setMic (s.mic + 1))) ∧
      (¬ (ccen = true ∧ s.sig.cbit = false) → exec (.ciCjp bar ccen) s = .next (s.setMic bar.toNat))

/-- CJS and PUSH: one entry is pushed, and the sixth push faults (R283, R287, R290, R402; that the signals are at rest after a fault is the model's choice, log 2; that mic + 1 does not wrap is the spec's decision D4, log 11). -/
def Obligations.CallAndPushRows : Prop :=
  ∀ (bar : BitVec 12) (ccen : Bool) (s : State),
    ((ccen = true ∧ s.sig.cbit = false) → exec (.ciCjs bar ccen) s = .next (s.setMic (s.mic + 1))) ∧
      (¬ (ccen = true ∧ s.sig.cbit = false) → s.stack.length < 5 →
        exec (.ciCjs bar ccen) s = .next ((s.setStack (s.stack ++ [s.mic + 1])).setMic bar.toNat)) ∧
      (¬ (ccen = true ∧ s.sig.cbit = false) → s.stack.length = 5 → exec (.ciCjs bar ccen) s = .next ((s.setOutcome (.faulted .stackOverflow)).setSig Signals.rest)) ∧
      (s.stack.length < 5 →
        exec (.ciPush bar) s = .next ((s.setStack (s.stack ++ [bar.toNat])).setMic (s.mic + 1))) ∧
      (s.stack.length = 5 → exec (.ciPush bar) s = .next ((s.setOutcome (.faulted .stackOverflow)).setSig Signals.rest))

/-- CRTN and CJPP: the top entry is popped, and an empty stack faults (R284, R291, R292, R402; that the signals are at rest after a fault is the model's choice, log 2; that mic + 1 does not wrap is the spec's decision D4, log 11). -/
def Obligations.ReturnAndPopRows : Prop :=
  ∀ (bar : BitVec 12) (ccen : Bool) (s : State),
    ((ccen = true ∧ s.sig.cbit = false) → exec (.ciCrtn ccen) s = .next (s.setMic (s.mic + 1)) ∧
      exec (.ciCjpp bar ccen) s = .next (s.setMic (s.mic + 1))) ∧
      (∀ rest v, ¬ (ccen = true ∧ s.sig.cbit = false) → s.stack = rest ++ [v] →
        exec (.ciCrtn ccen) s = .next ((s.setStack rest).setMic v) ∧
          exec (.ciCjpp bar ccen) s = .next ((s.setStack rest).setMic bar.toNat)) ∧
      (¬ (ccen = true ∧ s.sig.cbit = false) → s.stack = [] →
        exec (.ciCrtn ccen) s = .next ((s.setOutcome (.faulted .stackUnderflow)).setSig Signals.rest) ∧
          exec (.ciCjpp bar ccen) s = .next ((s.setOutcome (.faulted .stackUnderflow)).setSig Signals.rest))

/-- The stack is last in, first out (R284, R287, R290, R291, R292; that mic + 1 does not wrap is the spec's decision D4, log 11). -/
def Obligations.CallThenReturn : Prop :=
  ∀ (bar : BitVec 12) (s t u : State), s.stack.length < 5 → u.stack = t.stack →
    (exec (.ciCjs bar false) s = .next t → exec (.ciCrtn false) u = .next ((u.setStack s.stack).setMic (s.mic + 1))) ∧
      (exec (.ciPush bar) s = .next t → exec (.ciCrtn false) u = .next ((u.setStack s.stack).setMic bar.toNat))

/-- Every invalid controller instruction faults, with mic and the stack unchanged (R294, R402; that the signals are at rest after a fault is the model's choice, log 2). -/
def Obligations.InvalidControllerFaults : Prop :=
  (∀ s : State, ∀ i ∈ ([.ciInvalid0101, .ciInvalid0110, .ciInvalid0111, .ciInvalid1000, .ciInvalid1001, .ciInvalid1100, .ciInvalid1101, .ciInvalid1111] : List Instr),
      exec i s = .next ((s.setOutcome (.faulted .invalidControllerInstruction)).setSig Signals.rest)) ∧
    ∀ (bar : BitVec 12) (ccen : Bool),
      ([5, 6, 7, 8, 9, 12, 13, 15] : List (BitVec 4)).map (fun v => ciOrder v bar ccen) =
        [.ciInvalid0101, .ciInvalid0110, .ciInvalid0111, .ciInvalid1000, .ciInvalid1001, .ciInvalid1100, .ciInvalid1101, .ciInvalid1111]

/-- CONT at 4095 goes to 4096, and the next fetch faults (R40, R285, R321; that mic does not wrap is the spec's decision D4, log 11). -/
def Obligations.SequentialAddressDoesNotWrap : Prop :=
  ∀ (s t : State) (f : Fields), Completes s t f → f.ci = 14 → s.mic = 4095 →
    t.mic = 4096 ∧ (t.calls < t.stepLimit →
      ∃ u, step t = .next u ∧ u.outcome = .faulted .unmappedMicroAddress ∧ u.mic = 4096)

/-- One word is written or read, every address is writable, and a read changes no memory (R70, R72, R73, R338; the canonical form of memory is the model's, log 7; that a read changes no memory is the spec's decision D23, log 21). -/
def Obligations.MemoryStageRows : Prop :=
  (∀ s : State, s.mem.wf = true → ∃ m : Memory, exec .mweWrite s = .next (s.setMem m) ∧ m.wf = true ∧
      m.read s.abus = s.dbus ∧ ∀ a, a ≠ s.abus → m.read a = s.mem.read a) ∧
    (∀ s : State, exec .mweRead s = .next (s.setDbus (s.mem.read s.abus))) ∧
    ∀ (m : Memory) (a : Word), (∀ c ∈ m, c.1 ≠ a.toNat) → m.read a = 0

/-- A word written in one cycle is read back in the next (R81, R84, R451; the canonical form of memory is the model's, log 7). -/
def Obligations.StoreThenLoad : Prop :=
  ∀ (s t u : State) (f g : Fields), s.mem.wf = true → Completes s t f → Completes t u g → f.mwe = true → g.mwe = false →
    u.abus = t.abus → u.dbus = t.dbus

/-- What the host loads write, and that their order does not matter (R33, R47, R256, R396, R444; that a preset may be any 4-bit value is the spec's decision D20, log 9; that of two image words for one address the later stands is the model's choice, log 18; the canonical form of memory is the model's, log 7). -/
def Obligations.HostLoadsCommute : Prop :=
  ∀ (regs : Vector Word 16) (acc : Word) (uS mS : Status) (image : List (Word × Word)) (s : State),
    (loadRegisters regs acc s = (s.setRegs regs).setAcc acc ∧
        ∀ i : RegIx, (loadRegisters regs acc s).reg i = regs[i.toNat]'i.isLt) ∧
      presetStatus uS mS s = (s.setUS uS).setMS mS ∧
      loadImage image s = s.setMem (loadImage image s).mem ∧
      (s.mem.wf = true → (loadImage image s).mem.wf = true ∧
        (∀ a, (∀ p ∈ image, p.1 ≠ a) → (loadImage image s).mem.read a = s.mem.read a) ∧
        ∀ before after a v, image = before ++ (a, v) :: after → (∀ p ∈ after, p.1 ≠ a) →
          (loadImage image s).mem.read a = v) ∧
      loadRegisters regs acc (presetStatus uS mS s) = presetStatus uS mS (loadRegisters regs acc s) ∧
      loadImage image (loadRegisters regs acc s) = loadRegisters regs acc (loadImage image s) ∧
      loadImage image (presetStatus uS mS s) = presetStatus uS mS (loadImage image s)

/-- A fault leaves every write of the earlier steps of its cycle, and none of its own step or later (R204, R242, R321, R323, R402, R448; EXNOR's flags follow decision D3, log 8; that the signals are at rest after a fault is the model's choice, log 2; that the call is counted is decision D11, log 12). -/
def Obligations.FaultKeepsTheEarlierWrites : Prop :=
  (∀ s : State, goesOn s → fetchWord s = none → step s =
      .next (((s.setCalls (s.calls + 1)).setOutcome (.faulted .unmappedMicroAddress)).setSig Signals.rest)) ∧
    ∀ (s t : State) (f : Fields) (k : Fault), runsFields s f → step s = .next t → t.outcome = .faulted k →
      (k = .malformedIcField → t.regs = s.regs ∧ t.acc = s.acc ∧ t.abus = s.abus ∧ t.dbus = s.dbus ∧ t.pc = s.pc ∧
          t.ir = s.ir ∧ t.uS = s.uS ∧ t.mS = s.mS) ∧
        (k = .illegalResultSelect → t.regs = s.regs ∧ t.acc = s.acc ∧
          t.abus = (if f.ic.toNat = 1 then s.pc else s.abus) ∧ t.dbus = (if f.ic.toNat = 4 then s.pc else s.dbus) ∧
          t.pc = (if f.ic.toNat = 2 then s.pc + 1 else s.pc) ∧ t.ir = s.ir ∧ t.uS = s.uS ∧ t.mS = s.mS) ∧
        (k ∈ ([.illegalStatusSelect, .unmappedMacroOpcode, .invalidControllerInstruction, .stackOverflow, .stackUnderflow] :
            List Fault) →
          t.regs = Sys2Proof.Reference.regsAfter f s ∧ t.acc = Sys2Proof.Reference.accAfter f s ∧
          t.abus = Sys2Proof.Reference.abusRouted f s ∧ t.dbus = Sys2Proof.Reference.dbusRouted f s ∧
          t.pc = Sys2Proof.Reference.pcAfter f s ∧ t.ir = Sys2Proof.Reference.irAfter f s) ∧
        (k = .illegalStatusSelect → t.uS = s.uS ∧ t.mS = s.mS) ∧
        (k ∈ ([.unmappedMacroOpcode, .invalidControllerInstruction, .stackOverflow, .stackUnderflow] : List Fault) →
          t.uS = (if f.srMicro then Sys2Proof.Reference.flagsNow f s else s.uS) ∧
            t.mS = (if f.srMacro then Sys2Proof.Reference.flagsNow f s else s.mS))

/-- What the snapshot and the run's result hold (R49, R396, R456, R458; the counters and the order of the snapshot are the spec's decisions D17 and D28, log 22; the counting at the ceiling is decision D11, log 12). -/
def Obligations.SnapshotAndResult : Prop :=
  (∀ s : State, (∀ a, (snapshot s).mem.read a = s.mem.read a) ∧ (snapshot s).pc = s.pc ∧ (snapshot s).mic = s.mic ∧
      (snapshot s).cycles = s.cycles ∧ (snapshot s).ir = s.ir ∧ (snapshot s).abus = s.abus ∧
      (snapshot s).dbus = s.dbus ∧ (snapshot s).stack = s.stack ∧ (snapshot s).uS = s.uS ∧ (snapshot s).mS = s.mS ∧
      (snapshot s).acc = s.acc ∧ (snapshot s).regs = s.regs) ∧
    (∀ s : State, runResult s = ((run s).outcome, snapshot (run s))) ∧
    (∀ s : State, s.outcome = .running → (runResult s).1 = .halted →
      s.store.read (runResult s).2.mic = some 0x7FFFFFFFFFFFFFFFFFF#75) ∧
    ∀ s : State, StateOk s → s.outcome = .running → (runResult s).1 = .stepLimitExceeded →
      (runResult s).2.cycles = s.stepLimit
end

