-- ==== Sys2Proof/Laws/Decode.lean ====
section
/-! SUPPORT. What the decoders and the encoders do to each other: fields and sub-fields read back, the control word's
two cases, and the macro word's fields. -/

namespace Sys2Proof

/-! ## The control word -/

/-- A placed field, bit by bit. -/
theorem placeField_getLsbD {n : Nat} (o : Nat) (v : BitVec n) (i : Nat) :
    (placeField o v).getLsbD i = (decide (i < 75) && !decide (i < o) && v.getLsbD (i - o)) := by
  simp only [placeField, BitVec.getLsbD_shiftLeft, BitVec.getLsbD_setWidth]
  by_cases h : i < 75
  · simp [h, show i - o < 75 by omega]
  · simp [h]

/-- A one-bit field, bit by bit. -/
theorem ofBool_getLsbD (b : Bool) (i : Nat) : (BitVec.ofBool b).getLsbD i = (decide (i = 0) && b) := by
  cases b <;> cases i <;> simp 

/-- A control word, bit by bit: each bit is one bit of one field (R102). -/
theorem toWord_getLsbD (f : Fields) (i : Nat) : f.toWord.getLsbD i =
  (decide (i < 75) && ((decide (i = 0) && f.mwe) || (decide (i = 1) && f.ir) || (!decide (i < 2) && f.ic.getLsbD (i - 2))
   || (!decide (i < 6) && f.bar.getLsbD (i-6)) || (!decide (i < 18) && f.ci.getLsbD (i - 18)) || (decide (i = 22) && f.ccen)
   || (decide (i = 23) && f.srMacro) || (decide (i = 24) && f.srMicro) || (!decide (i < 25) && f.sscu.getLsbD (i - 25))
   || (!decide (i < 37) && f.yMux.getLsbD (i - 37)) || (decide (i = 39) && f.bMux) || (!decide (i < 40) && f.rbAddr.getLsbD (i - 40))
   || (decide (i = 44) && f.aMux) || (!decide (i < 45) && f.raAddr.getLsbD (i - 45)) || (!decide (i < 49) && f.alu.getLsbD (i - 49))
   || (!decide (i < 58) && f.constant.getLsbD (i - 58)) || (decide (i = 74) && f.kMux))) := by
  have hb : ∀ o, (!decide (i < o) && decide (i - o = 0)) = decide (i = o) := by
    intro o; rw [Bool.eq_iff_iff]; simp; omega
  simp only [Fields.toWord, BitVec.getLsbD_or, placeField_getLsbD, ofBool_getLsbD, ← Bool.and_assoc]
  simp only [Bool.and_assoc (decide (i < 75)), hb]
  simp only [Bool.and_or_distrib_left]

/-- Cutting a written word into its fields gives the fields back. -/
@[simp] theorem extractFields_toWord (f : Fields) : extractFields f.toWord = f := by
  obtain ⟨a0,a1,a2,a3,a4,a5,a6,a7,a8,a9,b0,b1,b2,b3,b4,b5,b6⟩ := f
  simp only [extractFields, Fields.mk.injEq]
  refine ⟨?_,?_,?_,?_,?_,?_,?_,?_,?_,?_,?_,?_,?_,?_,?_,?_,?_⟩
  all_goals first
    | (apply BitVec.eq_of_getLsbD_eq
       intro i hi
       simp only [BitVec.getLsbD_extractLsb', toWord_getLsbD]
       interval_cases i <;> simp)
    | (simp only [toWord_getLsbD]; simp)

/-- The fields of the halt sentinel's bits, which are never decoded (R110). -/
theorem extractFields_haltWord : (extractFields Config.haltWord).mwe = true ∧ (extractFields Config.haltWord).ir = true := by
  decide

/-- The halt sentinel decodes to HALT (R110). -/
@[simp] theorem decodeWord_haltWord : decodeWord Config.haltWord = .halt := if_pos rfl

/-- Every other word decodes to its fields (R116). -/
theorem decodeWord_of_ne {w : ControlWord} (h : w ≠ Config.haltWord) : decodeWord w = .fields (extractFields w) :=
  if_neg h

/-- The two cases of a decoded word. -/
theorem decodeWord_cases (w : ControlWord) :
    (w = Config.haltWord ∧ decodeWord w = .halt) ∨ (w ≠ Config.haltWord ∧ decodeWord w = .fields (extractFields w)) := by
  by_cases h : w = Config.haltWord
  · exact .inl ⟨h, h ▸ decodeWord_haltWord⟩
  · exact .inr ⟨h, decodeWord_of_ne h⟩

/-- A written word in which `mwe` or `ir` is 0 is not the halt sentinel, so it decodes to the fields written. -/
theorem decodeWord_toWord {f : Fields} (h : f.mwe = false ∨ f.ir = false) : decodeWord f.toWord = .fields f := by
  have hne : f.toWord ≠ Config.haltWord := by
    intro e
    have hf : f = extractFields Config.haltWord := by rw [← e, extractFields_toWord]
    obtain ⟨h1, h2⟩ := extractFields_haltWord
    rw [← hf] at h1 h2
    rcases h with h | h <;> simp_all
  rw [decodeWord_of_ne hne, extractFields_toWord]

/-! ## Sub-fields -/

/-- The unread bits of a written `sscu` field. -/
@[simp] theorem unread_sscuField (f : Fields) (cop : BitVec 6) (u : BitVec 4) (sel : BitVec 2) :
    Fields.unread { f with sscu := sscuField cop u sel } = u := by
  apply BitVec.eq_of_getLsbD_eq
  intro i hi
  simp only [Fields.unread, sscuField, BitVec.getLsbD_extractLsb', BitVec.getLsbD_append]
  interval_cases i <;> simp

/-! ## The macro word -/

/-- The opcode of a written macro word. -/
@[simp] theorem macroOpcode_macroBits (op : BitVec 8) (a b : RegIx) : macroOpcode (macroBits op a b) = op := by
  apply BitVec.eq_of_getLsbD_eq
  intro i hi
  simp only [macroOpcode, macroBits, BitVec.getLsbD_extractLsb', BitVec.getLsbD_append]
  interval_cases i <;> simp

/-- The A field of a written macro word. -/
@[simp] theorem macroRegA_macroBits (op : BitVec 8) (a b : RegIx) : macroRegA (macroBits op a b) = a := by
  apply BitVec.eq_of_getLsbD_eq
  intro i hi
  simp only [macroRegA, macroBits, BitVec.getLsbD_extractLsb', BitVec.getLsbD_append]
  interval_cases i <;> simp

/-- The B field of a written macro word. -/
@[simp] theorem macroRegB_macroBits (op : BitVec 8) (a b : RegIx) : macroRegB (macroBits op a b) = b := by
  apply BitVec.eq_of_getLsbD_eq
  intro i hi
  simp only [macroRegB, macroBits, BitVec.getLsbD_extractLsb', BitVec.getLsbD_append]
  interval_cases i <;> simp

/-- A macro word is its opcode and its register fields. -/
@[simp] theorem macroBits_parts (w : Word) : macroBits (macroOpcode w) (macroRegA w) (macroRegB w) = w := by
  apply BitVec.eq_of_getLsbD_eq
  intro i hi
  simp only [macroBits, macroOpcode, macroRegA, macroRegB, BitVec.getLsbD_append, BitVec.getLsbD_extractLsb']
  interval_cases i <;> simp

/-- Each row a macro word decodes to writes that word again. -/
theorem encode_of_decodeMacro {w : Word} {i : Instr} (h : decodeMacro w = .ok i) : encode i = .macroWord w := by
  have hop : ∀ c : Nat, (macroOpcode w).toNat = c → macroOpcode w = BitVec.ofNat 8 c := by
    intro c hc
    apply BitVec.eq_of_toNat_eq
    rw [← hc]
    simp
  unfold decodeMacro at h
  simp only at h
  split at h
  case h_21 heq =>
    split at h
    · rename_i hab
      cases h
      have := hop _ heq
      rw [← macroBits_parts w, hab.1, hab.2, this]
      rfl
    · cases h
  case h_22 => cases h
  all_goals
    rename_i heq
    cases h
    have := hop _ heq
    simp only [encode]
    rw [← macroBits_parts w, this]
    simp

end Sys2Proof
end

