-- ==== Sys2Proof/Laws/Memory.lean ====
section
/-! SUPPORT. The maps in canonical form: what a lookup finds after an insertion or an erasure, and that every operation
keeps the canonical form. -/

namespace Sys2Proof.Machine

variable {α : Type}

/-! ## Lookups -/

theorem lookupCell_insertCell_same (m : List (Nat × α)) (a : Nat) (v : α) :
    lookupCell (insertCell m a v) a = some v := by
  induction m with
  | nil => simp [insertCell, lookupCell]
  | cons c rest ih =>
    obtain ⟨k, w⟩ := c
    unfold insertCell
    split
    · simp [lookupCell]
    · split
      · simp [lookupCell]
      · rename_i h1 h2
        simp only [lookupCell]
        rw [if_neg (by omega)]
        exact ih

theorem lookupCell_insertCell_other (m : List (Nat × α)) {a b : Nat} (v : α) (h : b ≠ a) :
    lookupCell (insertCell m a v) b = lookupCell m b := by
  induction m with
  | nil => simp [insertCell, lookupCell, Ne.symm h]
  | cons c rest ih =>
    obtain ⟨k, w⟩ := c
    unfold insertCell
    split
    · simp [lookupCell, Ne.symm h]
    · split
      · rename_i h1 h2
        subst h2
        simp [lookupCell, Ne.symm h]
      · simp only [lookupCell, ih]

theorem lookupCell_eraseCell_other (m : List (Nat × α)) {a b : Nat} (h : b ≠ a) :
    lookupCell (eraseCell m a) b = lookupCell m b := by
  induction m with
  | nil => rfl
  | cons c rest ih =>
    obtain ⟨k, w⟩ := c
    unfold eraseCell
    split
    · rename_i hk
      subst hk
      simp [lookupCell, Ne.symm h]
    · simp only [lookupCell, ih]

theorem lookupCell_below {lo a : Nat} {m : List (Nat × α)} (hm : risingFrom lo m = true) (h : a < lo) :
    lookupCell m a = none := by
  induction m generalizing lo with
  | nil => rfl
  | cons c rest ih =>
    obtain ⟨k, w⟩ := c
    simp only [risingFrom, Bool.and_eq_true, decide_eq_true_eq] at hm
    simp only [lookupCell]
    rw [if_neg (by omega)]
    exact ih hm.2 (by omega)

theorem lookupCell_eraseCell_same {lo : Nat} {m : List (Nat × α)} (hm : risingFrom lo m = true) (a : Nat) :
    lookupCell (eraseCell m a) a = none := by
  induction m generalizing lo with
  | nil => rfl
  | cons c rest ih =>
    obtain ⟨k, w⟩ := c
    simp only [risingFrom, Bool.and_eq_true, decide_eq_true_eq] at hm
    unfold eraseCell
    split
    · exact lookupCell_below hm.2 (by omega)
    · rename_i hk
      simp only [lookupCell, if_neg hk]
      exact ih hm.2

/-! ## The canonical form -/

theorem risingFrom_mono {lo lo' : Nat} {m : List (Nat × α)} (h : lo' ≤ lo) (hm : risingFrom lo m = true) :
    risingFrom lo' m = true := by
  cases m with
  | nil => rfl
  | cons c rest =>
    obtain ⟨k, w⟩ := c
    simp only [risingFrom, Bool.and_eq_true, decide_eq_true_eq] at hm ⊢
    exact ⟨by omega, hm.2⟩

theorem risingFrom_insertCell {lo : Nat} {m : List (Nat × α)} (hm : risingFrom lo m = true) {a : Nat} (v : α)
    (h : lo ≤ a) : risingFrom lo (insertCell m a v) = true := by
  induction m generalizing lo with
  | nil => simp [insertCell, risingFrom, h]
  | cons c rest ih =>
    obtain ⟨k, w⟩ := c
    simp only [risingFrom, Bool.and_eq_true, decide_eq_true_eq] at hm
    unfold insertCell
    split
    · simp only [risingFrom, Bool.and_eq_true, decide_eq_true_eq]
      exact ⟨h, by omega, hm.2⟩
    · split
      · rename_i h1 h2
        subst h2
        simp only [risingFrom, Bool.and_eq_true, decide_eq_true_eq]
        exact ⟨h, hm.2⟩
      · simp only [risingFrom, Bool.and_eq_true, decide_eq_true_eq]
        exact ⟨hm.1, ih hm.2 (by omega)⟩

theorem risingFrom_eraseCell {lo : Nat} {m : List (Nat × α)} (hm : risingFrom lo m = true) (a : Nat) :
    risingFrom lo (eraseCell m a) = true := by
  induction m generalizing lo with
  | nil => rfl
  | cons c rest ih =>
    obtain ⟨k, w⟩ := c
    simp only [risingFrom, Bool.and_eq_true, decide_eq_true_eq] at hm
    unfold eraseCell
    split
    · exact risingFrom_mono (by omega) hm.2
    · simp only [risingFrom, Bool.and_eq_true, decide_eq_true_eq]
      exact ⟨hm.1, ih hm.2⟩

theorem mem_insertCell {m : List (Nat × α)} {a : Nat} {v : α} {c : Nat × α} (h : c ∈ insertCell m a v) :
    c = (a, v) ∨ c ∈ m := by
  induction m with
  | nil => simpa [insertCell] using h
  | cons d rest ih =>
    obtain ⟨k, w⟩ := d
    unfold insertCell at h
    split at h
    · simpa using h
    · split at h
      · rcases List.mem_cons.mp h with h | h
        · exact .inl h
        · exact .inr (List.mem_cons_of_mem _ h)
      · rcases List.mem_cons.mp h with h | h
        · exact .inr (h ▸ List.mem_cons_self)
        · rcases ih h with h | h
          · exact .inl h
          · exact .inr (List.mem_cons_of_mem _ h)

theorem mem_eraseCell {m : List (Nat × α)} {a : Nat} {c : Nat × α} (h : c ∈ eraseCell m a) : c ∈ m := by
  induction m with
  | nil => exact h
  | cons d rest ih =>
    obtain ⟨k, w⟩ := d
    unfold eraseCell at h
    split at h
    · exact List.mem_cons_of_mem _ h
    · rcases List.mem_cons.mp h with h | h
      · exact h ▸ List.mem_cons_self
      · exact List.mem_cons_of_mem _ (ih h)

theorem mapWf_insertCell {bound : Nat} {m : List (Nat × α)} (hm : mapWf bound m = true) {a : Nat} (v : α)
    (h : a < bound) : mapWf bound (insertCell m a v) = true := by
  simp only [mapWf, Bool.and_eq_true, List.all_eq_true, decide_eq_true_eq] at hm ⊢
  refine ⟨risingFrom_insertCell hm.1 v (Nat.zero_le a), fun c hc => ?_⟩
  rcases mem_insertCell hc with rfl | hc
  · exact h
  · exact hm.2 c hc

theorem mapWf_eraseCell {bound : Nat} {m : List (Nat × α)} (hm : mapWf bound m = true) (a : Nat) :
    mapWf bound (eraseCell m a) = true := by
  simp only [mapWf, Bool.and_eq_true, List.all_eq_true, decide_eq_true_eq] at hm ⊢
  exact ⟨risingFrom_eraseCell hm.1 a, fun c hc => hm.2 c (mem_eraseCell hc)⟩

/-! ## Data memory -/

/-- Every write keeps the canonical form. -/
theorem Memory.wf_write {m : Memory} (hm : m.wf = true) (a v : Word) : (m.write a v).wf = true := by
  simp only [Memory.wf, Bool.and_eq_true, List.all_eq_true, decide_eq_true_eq] at hm ⊢
  unfold Memory.write
  split
  · exact ⟨mapWf_eraseCell hm.1 _, fun c hc => hm.2 c (mem_eraseCell hc)⟩
  · rename_i hv
    refine ⟨mapWf_insertCell hm.1 v a.isLt, fun c hc => ?_⟩
    rcases mem_insertCell hc with rfl | hc
    · exact hv
    · exact hm.2 c hc

/-- A word reads as it was last written (R72, R73). -/
theorem Memory.read_write_same {m : Memory} (hm : m.wf = true) (a v : Word) : (m.write a v).read a = v := by
  simp only [Memory.wf, mapWf, Bool.and_eq_true] at hm
  unfold Memory.write Memory.read
  split
  · rename_i hv
    rw [lookupCell_eraseCell_same hm.1.1]
    exact hv.symm
  · rw [lookupCell_insertCell_same]
    rfl

/-- A write leaves every other word alone (R72). -/
theorem Memory.read_write_other (m : Memory) {a b : Word} (v : Word) (h : b ≠ a) : (m.write a v).read b = m.read b := by
  have hn : b.toNat ≠ a.toNat := fun e => h (BitVec.eq_of_toNat_eq e)
  unfold Memory.write Memory.read
  split
  · rw [lookupCell_eraseCell_other m hn]
  · rw [lookupCell_insertCell_other m v hn]

/-- The maps of the construction state are in canonical form. -/
theorem reset_maps_wf : State.reset.mem.wf = true ∧ State.reset.store.wf = true ∧ State.reset.prom.wf = true := by
  decide

/-! ## Control store and opcode table -/

/-- Placing a word keeps a control store's canonical form. -/
theorem ControlStore.wf_insert {m : ControlStore} (hm : m.wf = true) {a : Nat} (w : ControlWord)
    (h : a < Config.microSpace) : ControlStore.wf (insertCell m a w) = true := mapWf_insertCell hm w h

/-- Mapping an opcode keeps an opcode table's canonical form. -/
theorem OpcodeTable.wf_insert {m : OpcodeTable} (hm : m.wf = true) (op : BitVec 8) (a : MicroAddr) :
    OpcodeTable.wf (insertCell m op.toNat a) = true := mapWf_insertCell hm a op.isLt

/-- A placed word is what its address reads. -/
theorem ControlStore.read_insert_same (m : ControlStore) {a : Nat} (w : ControlWord) (h : a < Config.microSpace) :
    ControlStore.read (insertCell m a w) a = some w := by
  simp only [ControlStore.read, if_pos h]
  exact lookupCell_insertCell_same m a w

/-- No address at or above 4096 has an entry (R321). -/
theorem ControlStore.read_above (m : ControlStore) {a : Nat} (h : Config.microSpace ≤ a) : m.read a = none :=
  if_neg (by omega)

end Sys2Proof.Machine
end

