-- ==== Sys2Proof/Laws/State.lean ====
section
/-! SUPPORT. What each update of State.lean leaves in each field, one lemma for each pair. -/

namespace Sys2Proof.Machine

@[simp] theorem State.setRegs_regs (m : State) (v : Vector Word 16) : (m.setRegs v).regs = v := rfl
@[simp] theorem State.setRegs_acc (m : State) (v : Vector Word 16) : (m.setRegs v).acc = m.acc := rfl
@[simp] theorem State.setRegs_uS (m : State) (v : Vector Word 16) : (m.setRegs v).uS = m.uS := rfl
@[simp] theorem State.setRegs_mS (m : State) (v : Vector Word 16) : (m.setRegs v).mS = m.mS := rfl
@[simp] theorem State.setRegs_ir (m : State) (v : Vector Word 16) : (m.setRegs v).ir = m.ir := rfl
@[simp] theorem State.setRegs_pc (m : State) (v : Vector Word 16) : (m.setRegs v).pc = m.pc := rfl
@[simp] theorem State.setRegs_abus (m : State) (v : Vector Word 16) : (m.setRegs v).abus = m.abus := rfl
@[simp] theorem State.setRegs_dbus (m : State) (v : Vector Word 16) : (m.setRegs v).dbus = m.dbus := rfl
@[simp] theorem State.setRegs_mic (m : State) (v : Vector Word 16) : (m.setRegs v).mic = m.mic := rfl
@[simp] theorem State.setRegs_stack (m : State) (v : Vector Word 16) : (m.setRegs v).stack = m.stack := rfl
@[simp] theorem State.setRegs_mem (m : State) (v : Vector Word 16) : (m.setRegs v).mem = m.mem := rfl
@[simp] theorem State.setRegs_store (m : State) (v : Vector Word 16) : (m.setRegs v).store = m.store := rfl
@[simp] theorem State.setRegs_prom (m : State) (v : Vector Word 16) : (m.setRegs v).prom = m.prom := rfl
@[simp] theorem State.setRegs_cycles (m : State) (v : Vector Word 16) : (m.setRegs v).cycles = m.cycles := rfl
@[simp] theorem State.setRegs_outcome (m : State) (v : Vector Word 16) : (m.setRegs v).outcome = m.outcome := rfl
@[simp] theorem State.setRegs_stepLimit (m : State) (v : Vector Word 16) : (m.setRegs v).stepLimit = m.stepLimit := rfl
@[simp] theorem State.setRegs_calls (m : State) (v : Vector Word 16) : (m.setRegs v).calls = m.calls := rfl
@[simp] theorem State.setRegs_sig (m : State) (v : Vector Word 16) : (m.setRegs v).sig = m.sig := rfl
@[simp] theorem State.setRegs_self (m : State) : m.setRegs m.regs = m := rfl

@[simp] theorem State.setAcc_regs (m : State) (v : Word) : (m.setAcc v).regs = m.regs := rfl
@[simp] theorem State.setAcc_acc (m : State) (v : Word) : (m.setAcc v).acc = v := rfl
@[simp] theorem State.setAcc_uS (m : State) (v : Word) : (m.setAcc v).uS = m.uS := rfl
@[simp] theorem State.setAcc_mS (m : State) (v : Word) : (m.setAcc v).mS = m.mS := rfl
@[simp] theorem State.setAcc_ir (m : State) (v : Word) : (m.setAcc v).ir = m.ir := rfl
@[simp] theorem State.setAcc_pc (m : State) (v : Word) : (m.setAcc v).pc = m.pc := rfl
@[simp] theorem State.setAcc_abus (m : State) (v : Word) : (m.setAcc v).abus = m.abus := rfl
@[simp] theorem State.setAcc_dbus (m : State) (v : Word) : (m.setAcc v).dbus = m.dbus := rfl
@[simp] theorem State.setAcc_mic (m : State) (v : Word) : (m.setAcc v).mic = m.mic := rfl
@[simp] theorem State.setAcc_stack (m : State) (v : Word) : (m.setAcc v).stack = m.stack := rfl
@[simp] theorem State.setAcc_mem (m : State) (v : Word) : (m.setAcc v).mem = m.mem := rfl
@[simp] theorem State.setAcc_store (m : State) (v : Word) : (m.setAcc v).store = m.store := rfl
@[simp] theorem State.setAcc_prom (m : State) (v : Word) : (m.setAcc v).prom = m.prom := rfl
@[simp] theorem State.setAcc_cycles (m : State) (v : Word) : (m.setAcc v).cycles = m.cycles := rfl
@[simp] theorem State.setAcc_outcome (m : State) (v : Word) : (m.setAcc v).outcome = m.outcome := rfl
@[simp] theorem State.setAcc_stepLimit (m : State) (v : Word) : (m.setAcc v).stepLimit = m.stepLimit := rfl
@[simp] theorem State.setAcc_calls (m : State) (v : Word) : (m.setAcc v).calls = m.calls := rfl
@[simp] theorem State.setAcc_sig (m : State) (v : Word) : (m.setAcc v).sig = m.sig := rfl
@[simp] theorem State.setAcc_self (m : State) : m.setAcc m.acc = m := rfl

@[simp] theorem State.setUS_regs (m : State) (v : Status) : (m.setUS v).regs = m.regs := rfl
@[simp] theorem State.setUS_acc (m : State) (v : Status) : (m.setUS v).acc = m.acc := rfl
@[simp] theorem State.setUS_uS (m : State) (v : Status) : (m.setUS v).uS = v := rfl
@[simp] theorem State.setUS_mS (m : State) (v : Status) : (m.setUS v).mS = m.mS := rfl
@[simp] theorem State.setUS_ir (m : State) (v : Status) : (m.setUS v).ir = m.ir := rfl
@[simp] theorem State.setUS_pc (m : State) (v : Status) : (m.setUS v).pc = m.pc := rfl
@[simp] theorem State.setUS_abus (m : State) (v : Status) : (m.setUS v).abus = m.abus := rfl
@[simp] theorem State.setUS_dbus (m : State) (v : Status) : (m.setUS v).dbus = m.dbus := rfl
@[simp] theorem State.setUS_mic (m : State) (v : Status) : (m.setUS v).mic = m.mic := rfl
@[simp] theorem State.setUS_stack (m : State) (v : Status) : (m.setUS v).stack = m.stack := rfl
@[simp] theorem State.setUS_mem (m : State) (v : Status) : (m.setUS v).mem = m.mem := rfl
@[simp] theorem State.setUS_store (m : State) (v : Status) : (m.setUS v).store = m.store := rfl
@[simp] theorem State.setUS_prom (m : State) (v : Status) : (m.setUS v).prom = m.prom := rfl
@[simp] theorem State.setUS_cycles (m : State) (v : Status) : (m.setUS v).cycles = m.cycles := rfl
@[simp] theorem State.setUS_outcome (m : State) (v : Status) : (m.setUS v).outcome = m.outcome := rfl
@[simp] theorem State.setUS_stepLimit (m : State) (v : Status) : (m.setUS v).stepLimit = m.stepLimit := rfl
@[simp] theorem State.setUS_calls (m : State) (v : Status) : (m.setUS v).calls = m.calls := rfl
@[simp] theorem State.setUS_sig (m : State) (v : Status) : (m.setUS v).sig = m.sig := rfl
@[simp] theorem State.setUS_self (m : State) : m.setUS m.uS = m := rfl

@[simp] theorem State.setMS_regs (m : State) (v : Status) : (m.setMS v).regs = m.regs := rfl
@[simp] theorem State.setMS_acc (m : State) (v : Status) : (m.setMS v).acc = m.acc := rfl
@[simp] theorem State.setMS_uS (m : State) (v : Status) : (m.setMS v).uS = m.uS := rfl
@[simp] theorem State.setMS_mS (m : State) (v : Status) : (m.setMS v).mS = v := rfl
@[simp] theorem State.setMS_ir (m : State) (v : Status) : (m.setMS v).ir = m.ir := rfl
@[simp] theorem State.setMS_pc (m : State) (v : Status) : (m.setMS v).pc = m.pc := rfl
@[simp] theorem State.setMS_abus (m : State) (v : Status) : (m.setMS v).abus = m.abus := rfl
@[simp] theorem State.setMS_dbus (m : State) (v : Status) : (m.setMS v).dbus = m.dbus := rfl
@[simp] theorem State.setMS_mic (m : State) (v : Status) : (m.setMS v).mic = m.mic := rfl
@[simp] theorem State.setMS_stack (m : State) (v : Status) : (m.setMS v).stack = m.stack := rfl
@[simp] theorem State.setMS_mem (m : State) (v : Status) : (m.setMS v).mem = m.mem := rfl
@[simp] theorem State.setMS_store (m : State) (v : Status) : (m.setMS v).store = m.store := rfl
@[simp] theorem State.setMS_prom (m : State) (v : Status) : (m.setMS v).prom = m.prom := rfl
@[simp] theorem State.setMS_cycles (m : State) (v : Status) : (m.setMS v).cycles = m.cycles := rfl
@[simp] theorem State.setMS_outcome (m : State) (v : Status) : (m.setMS v).outcome = m.outcome := rfl
@[simp] theorem State.setMS_stepLimit (m : State) (v : Status) : (m.setMS v).stepLimit = m.stepLimit := rfl
@[simp] theorem State.setMS_calls (m : State) (v : Status) : (m.setMS v).calls = m.calls := rfl
@[simp] theorem State.setMS_sig (m : State) (v : Status) : (m.setMS v).sig = m.sig := rfl
@[simp] theorem State.setMS_self (m : State) : m.setMS m.mS = m := rfl

@[simp] theorem State.setIr_regs (m : State) (v : Word) : (m.setIr v).regs = m.regs := rfl
@[simp] theorem State.setIr_acc (m : State) (v : Word) : (m.setIr v).acc = m.acc := rfl
@[simp] theorem State.setIr_uS (m : State) (v : Word) : (m.setIr v).uS = m.uS := rfl
@[simp] theorem State.setIr_mS (m : State) (v : Word) : (m.setIr v).mS = m.mS := rfl
@[simp] theorem State.setIr_ir (m : State) (v : Word) : (m.setIr v).ir = v := rfl
@[simp] theorem State.setIr_pc (m : State) (v : Word) : (m.setIr v).pc = m.pc := rfl
@[simp] theorem State.setIr_abus (m : State) (v : Word) : (m.setIr v).abus = m.abus := rfl
@[simp] theorem State.setIr_dbus (m : State) (v : Word) : (m.setIr v).dbus = m.dbus := rfl
@[simp] theorem State.setIr_mic (m : State) (v : Word) : (m.setIr v).mic = m.mic := rfl
@[simp] theorem State.setIr_stack (m : State) (v : Word) : (m.setIr v).stack = m.stack := rfl
@[simp] theorem State.setIr_mem (m : State) (v : Word) : (m.setIr v).mem = m.mem := rfl
@[simp] theorem State.setIr_store (m : State) (v : Word) : (m.setIr v).store = m.store := rfl
@[simp] theorem State.setIr_prom (m : State) (v : Word) : (m.setIr v).prom = m.prom := rfl
@[simp] theorem State.setIr_cycles (m : State) (v : Word) : (m.setIr v).cycles = m.cycles := rfl
@[simp] theorem State.setIr_outcome (m : State) (v : Word) : (m.setIr v).outcome = m.outcome := rfl
@[simp] theorem State.setIr_stepLimit (m : State) (v : Word) : (m.setIr v).stepLimit = m.stepLimit := rfl
@[simp] theorem State.setIr_calls (m : State) (v : Word) : (m.setIr v).calls = m.calls := rfl
@[simp] theorem State.setIr_sig (m : State) (v : Word) : (m.setIr v).sig = m.sig := rfl
@[simp] theorem State.setIr_self (m : State) : m.setIr m.ir = m := rfl

@[simp] theorem State.setPc_regs (m : State) (v : Word) : (m.setPc v).regs = m.regs := rfl
@[simp] theorem State.setPc_acc (m : State) (v : Word) : (m.setPc v).acc = m.acc := rfl
@[simp] theorem State.setPc_uS (m : State) (v : Word) : (m.setPc v).uS = m.uS := rfl
@[simp] theorem State.setPc_mS (m : State) (v : Word) : (m.setPc v).mS = m.mS := rfl
@[simp] theorem State.setPc_ir (m : State) (v : Word) : (m.setPc v).ir = m.ir := rfl
@[simp] theorem State.setPc_pc (m : State) (v : Word) : (m.setPc v).pc = v := rfl
@[simp] theorem State.setPc_abus (m : State) (v : Word) : (m.setPc v).abus = m.abus := rfl
@[simp] theorem State.setPc_dbus (m : State) (v : Word) : (m.setPc v).dbus = m.dbus := rfl
@[simp] theorem State.setPc_mic (m : State) (v : Word) : (m.setPc v).mic = m.mic := rfl
@[simp] theorem State.setPc_stack (m : State) (v : Word) : (m.setPc v).stack = m.stack := rfl
@[simp] theorem State.setPc_mem (m : State) (v : Word) : (m.setPc v).mem = m.mem := rfl
@[simp] theorem State.setPc_store (m : State) (v : Word) : (m.setPc v).store = m.store := rfl
@[simp] theorem State.setPc_prom (m : State) (v : Word) : (m.setPc v).prom = m.prom := rfl
@[simp] theorem State.setPc_cycles (m : State) (v : Word) : (m.setPc v).cycles = m.cycles := rfl
@[simp] theorem State.setPc_outcome (m : State) (v : Word) : (m.setPc v).outcome = m.outcome := rfl
@[simp] theorem State.setPc_stepLimit (m : State) (v : Word) : (m.setPc v).stepLimit = m.stepLimit := rfl
@[simp] theorem State.setPc_calls (m : State) (v : Word) : (m.setPc v).calls = m.calls := rfl
@[simp] theorem State.setPc_sig (m : State) (v : Word) : (m.setPc v).sig = m.sig := rfl
@[simp] theorem State.setPc_self (m : State) : m.setPc m.pc = m := rfl

@[simp] theorem State.setAbus_regs (m : State) (v : Word) : (m.setAbus v).regs = m.regs := rfl
@[simp] theorem State.setAbus_acc (m : State) (v : Word) : (m.setAbus v).acc = m.acc := rfl
@[simp] theorem State.setAbus_uS (m : State) (v : Word) : (m.setAbus v).uS = m.uS := rfl
@[simp] theorem State.setAbus_mS (m : State) (v : Word) : (m.setAbus v).mS = m.mS := rfl
@[simp] theorem State.setAbus_ir (m : State) (v : Word) : (m.setAbus v).ir = m.ir := rfl
@[simp] theorem State.setAbus_pc (m : State) (v : Word) : (m.setAbus v).pc = m.pc := rfl
@[simp] theorem State.setAbus_abus (m : State) (v : Word) : (m.setAbus v).abus = v := rfl
@[simp] theorem State.setAbus_dbus (m : State) (v : Word) : (m.setAbus v).dbus = m.dbus := rfl
@[simp] theorem State.setAbus_mic (m : State) (v : Word) : (m.setAbus v).mic = m.mic := rfl
@[simp] theorem State.setAbus_stack (m : State) (v : Word) : (m.setAbus v).stack = m.stack := rfl
@[simp] theorem State.setAbus_mem (m : State) (v : Word) : (m.setAbus v).mem = m.mem := rfl
@[simp] theorem State.setAbus_store (m : State) (v : Word) : (m.setAbus v).store = m.store := rfl
@[simp] theorem State.setAbus_prom (m : State) (v : Word) : (m.setAbus v).prom = m.prom := rfl
@[simp] theorem State.setAbus_cycles (m : State) (v : Word) : (m.setAbus v).cycles = m.cycles := rfl
@[simp] theorem State.setAbus_outcome (m : State) (v : Word) : (m.setAbus v).outcome = m.outcome := rfl
@[simp] theorem State.setAbus_stepLimit (m : State) (v : Word) : (m.setAbus v).stepLimit = m.stepLimit := rfl
@[simp] theorem State.setAbus_calls (m : State) (v : Word) : (m.setAbus v).calls = m.calls := rfl
@[simp] theorem State.setAbus_sig (m : State) (v : Word) : (m.setAbus v).sig = m.sig := rfl
@[simp] theorem State.setAbus_self (m : State) : m.setAbus m.abus = m := rfl

@[simp] theorem State.setDbus_regs (m : State) (v : Word) : (m.setDbus v).regs = m.regs := rfl
@[simp] theorem State.setDbus_acc (m : State) (v : Word) : (m.setDbus v).acc = m.acc := rfl
@[simp] theorem State.setDbus_uS (m : State) (v : Word) : (m.setDbus v).uS = m.uS := rfl
@[simp] theorem State.setDbus_mS (m : State) (v : Word) : (m.setDbus v).mS = m.mS := rfl
@[simp] theorem State.setDbus_ir (m : State) (v : Word) : (m.setDbus v).ir = m.ir := rfl
@[simp] theorem State.setDbus_pc (m : State) (v : Word) : (m.setDbus v).pc = m.pc := rfl
@[simp] theorem State.setDbus_abus (m : State) (v : Word) : (m.setDbus v).abus = m.abus := rfl
@[simp] theorem State.setDbus_dbus (m : State) (v : Word) : (m.setDbus v).dbus = v := rfl
@[simp] theorem State.setDbus_mic (m : State) (v : Word) : (m.setDbus v).mic = m.mic := rfl
@[simp] theorem State.setDbus_stack (m : State) (v : Word) : (m.setDbus v).stack = m.stack := rfl
@[simp] theorem State.setDbus_mem (m : State) (v : Word) : (m.setDbus v).mem = m.mem := rfl
@[simp] theorem State.setDbus_store (m : State) (v : Word) : (m.setDbus v).store = m.store := rfl
@[simp] theorem State.setDbus_prom (m : State) (v : Word) : (m.setDbus v).prom = m.prom := rfl
@[simp] theorem State.setDbus_cycles (m : State) (v : Word) : (m.setDbus v).cycles = m.cycles := rfl
@[simp] theorem State.setDbus_outcome (m : State) (v : Word) : (m.setDbus v).outcome = m.outcome := rfl
@[simp] theorem State.setDbus_stepLimit (m : State) (v : Word) : (m.setDbus v).stepLimit = m.stepLimit := rfl
@[simp] theorem State.setDbus_calls (m : State) (v : Word) : (m.setDbus v).calls = m.calls := rfl
@[simp] theorem State.setDbus_sig (m : State) (v : Word) : (m.setDbus v).sig = m.sig := rfl
@[simp] theorem State.setDbus_self (m : State) : m.setDbus m.dbus = m := rfl

@[simp] theorem State.setMic_regs (m : State) (v : Nat) : (m.setMic v).regs = m.regs := rfl
@[simp] theorem State.setMic_acc (m : State) (v : Nat) : (m.setMic v).acc = m.acc := rfl
@[simp] theorem State.setMic_uS (m : State) (v : Nat) : (m.setMic v).uS = m.uS := rfl
@[simp] theorem State.setMic_mS (m : State) (v : Nat) : (m.setMic v).mS = m.mS := rfl
@[simp] theorem State.setMic_ir (m : State) (v : Nat) : (m.setMic v).ir = m.ir := rfl
@[simp] theorem State.setMic_pc (m : State) (v : Nat) : (m.setMic v).pc = m.pc := rfl
@[simp] theorem State.setMic_abus (m : State) (v : Nat) : (m.setMic v).abus = m.abus := rfl
@[simp] theorem State.setMic_dbus (m : State) (v : Nat) : (m.setMic v).dbus = m.dbus := rfl
@[simp] theorem State.setMic_mic (m : State) (v : Nat) : (m.setMic v).mic = v := rfl
@[simp] theorem State.setMic_stack (m : State) (v : Nat) : (m.setMic v).stack = m.stack := rfl
@[simp] theorem State.setMic_mem (m : State) (v : Nat) : (m.setMic v).mem = m.mem := rfl
@[simp] theorem State.setMic_store (m : State) (v : Nat) : (m.setMic v).store = m.store := rfl
@[simp] theorem State.setMic_prom (m : State) (v : Nat) : (m.setMic v).prom = m.prom := rfl
@[simp] theorem State.setMic_cycles (m : State) (v : Nat) : (m.setMic v).cycles = m.cycles := rfl
@[simp] theorem State.setMic_outcome (m : State) (v : Nat) : (m.setMic v).outcome = m.outcome := rfl
@[simp] theorem State.setMic_stepLimit (m : State) (v : Nat) : (m.setMic v).stepLimit = m.stepLimit := rfl
@[simp] theorem State.setMic_calls (m : State) (v : Nat) : (m.setMic v).calls = m.calls := rfl
@[simp] theorem State.setMic_sig (m : State) (v : Nat) : (m.setMic v).sig = m.sig := rfl
@[simp] theorem State.setMic_self (m : State) : m.setMic m.mic = m := rfl

@[simp] theorem State.setStack_regs (m : State) (v : List Nat) : (m.setStack v).regs = m.regs := rfl
@[simp] theorem State.setStack_acc (m : State) (v : List Nat) : (m.setStack v).acc = m.acc := rfl
@[simp] theorem State.setStack_uS (m : State) (v : List Nat) : (m.setStack v).uS = m.uS := rfl
@[simp] theorem State.setStack_mS (m : State) (v : List Nat) : (m.setStack v).mS = m.mS := rfl
@[simp] theorem State.setStack_ir (m : State) (v : List Nat) : (m.setStack v).ir = m.ir := rfl
@[simp] theorem State.setStack_pc (m : State) (v : List Nat) : (m.setStack v).pc = m.pc := rfl
@[simp] theorem State.setStack_abus (m : State) (v : List Nat) : (m.setStack v).abus = m.abus := rfl
@[simp] theorem State.setStack_dbus (m : State) (v : List Nat) : (m.setStack v).dbus = m.dbus := rfl
@[simp] theorem State.setStack_mic (m : State) (v : List Nat) : (m.setStack v).mic = m.mic := rfl
@[simp] theorem State.setStack_stack (m : State) (v : List Nat) : (m.setStack v).stack = v := rfl
@[simp] theorem State.setStack_mem (m : State) (v : List Nat) : (m.setStack v).mem = m.mem := rfl
@[simp] theorem State.setStack_store (m : State) (v : List Nat) : (m.setStack v).store = m.store := rfl
@[simp] theorem State.setStack_prom (m : State) (v : List Nat) : (m.setStack v).prom = m.prom := rfl
@[simp] theorem State.setStack_cycles (m : State) (v : List Nat) : (m.setStack v).cycles = m.cycles := rfl
@[simp] theorem State.setStack_outcome (m : State) (v : List Nat) : (m.setStack v).outcome = m.outcome := rfl
@[simp] theorem State.setStack_stepLimit (m : State) (v : List Nat) : (m.setStack v).stepLimit = m.stepLimit := rfl
@[simp] theorem State.setStack_calls (m : State) (v : List Nat) : (m.setStack v).calls = m.calls := rfl
@[simp] theorem State.setStack_sig (m : State) (v : List Nat) : (m.setStack v).sig = m.sig := rfl
@[simp] theorem State.setStack_self (m : State) : m.setStack m.stack = m := rfl

@[simp] theorem State.setMem_regs (m : State) (v : Memory) : (m.setMem v).regs = m.regs := rfl
@[simp] theorem State.setMem_acc (m : State) (v : Memory) : (m.setMem v).acc = m.acc := rfl
@[simp] theorem State.setMem_uS (m : State) (v : Memory) : (m.setMem v).uS = m.uS := rfl
@[simp] theorem State.setMem_mS (m : State) (v : Memory) : (m.setMem v).mS = m.mS := rfl
@[simp] theorem State.setMem_ir (m : State) (v : Memory) : (m.setMem v).ir = m.ir := rfl
@[simp] theorem State.setMem_pc (m : State) (v : Memory) : (m.setMem v).pc = m.pc := rfl
@[simp] theorem State.setMem_abus (m : State) (v : Memory) : (m.setMem v).abus = m.abus := rfl
@[simp] theorem State.setMem_dbus (m : State) (v : Memory) : (m.setMem v).dbus = m.dbus := rfl
@[simp] theorem State.setMem_mic (m : State) (v : Memory) : (m.setMem v).mic = m.mic := rfl
@[simp] theorem State.setMem_stack (m : State) (v : Memory) : (m.setMem v).stack = m.stack := rfl
@[simp] theorem State.setMem_mem (m : State) (v : Memory) : (m.setMem v).mem = v := rfl
@[simp] theorem State.setMem_store (m : State) (v : Memory) : (m.setMem v).store = m.store := rfl
@[simp] theorem State.setMem_prom (m : State) (v : Memory) : (m.setMem v).prom = m.prom := rfl
@[simp] theorem State.setMem_cycles (m : State) (v : Memory) : (m.setMem v).cycles = m.cycles := rfl
@[simp] theorem State.setMem_outcome (m : State) (v : Memory) : (m.setMem v).outcome = m.outcome := rfl
@[simp] theorem State.setMem_stepLimit (m : State) (v : Memory) : (m.setMem v).stepLimit = m.stepLimit := rfl
@[simp] theorem State.setMem_calls (m : State) (v : Memory) : (m.setMem v).calls = m.calls := rfl
@[simp] theorem State.setMem_sig (m : State) (v : Memory) : (m.setMem v).sig = m.sig := rfl
@[simp] theorem State.setMem_self (m : State) : m.setMem m.mem = m := rfl

@[simp] theorem State.setStore_regs (m : State) (v : ControlStore) : (m.setStore v).regs = m.regs := rfl
@[simp] theorem State.setStore_acc (m : State) (v : ControlStore) : (m.setStore v).acc = m.acc := rfl
@[simp] theorem State.setStore_uS (m : State) (v : ControlStore) : (m.setStore v).uS = m.uS := rfl
@[simp] theorem State.setStore_mS (m : State) (v : ControlStore) : (m.setStore v).mS = m.mS := rfl
@[simp] theorem State.setStore_ir (m : State) (v : ControlStore) : (m.setStore v).ir = m.ir := rfl
@[simp] theorem State.setStore_pc (m : State) (v : ControlStore) : (m.setStore v).pc = m.pc := rfl
@[simp] theorem State.setStore_abus (m : State) (v : ControlStore) : (m.setStore v).abus = m.abus := rfl
@[simp] theorem State.setStore_dbus (m : State) (v : ControlStore) : (m.setStore v).dbus = m.dbus := rfl
@[simp] theorem State.setStore_mic (m : State) (v : ControlStore) : (m.setStore v).mic = m.mic := rfl
@[simp] theorem State.setStore_stack (m : State) (v : ControlStore) : (m.setStore v).stack = m.stack := rfl
@[simp] theorem State.setStore_mem (m : State) (v : ControlStore) : (m.setStore v).mem = m.mem := rfl
@[simp] theorem State.setStore_store (m : State) (v : ControlStore) : (m.setStore v).store = v := rfl
@[simp] theorem State.setStore_prom (m : State) (v : ControlStore) : (m.setStore v).prom = m.prom := rfl
@[simp] theorem State.setStore_cycles (m : State) (v : ControlStore) : (m.setStore v).cycles = m.cycles := rfl
@[simp] theorem State.setStore_outcome (m : State) (v : ControlStore) : (m.setStore v).outcome = m.outcome := rfl
@[simp] theorem State.setStore_stepLimit (m : State) (v : ControlStore) : (m.setStore v).stepLimit = m.stepLimit := rfl
@[simp] theorem State.setStore_calls (m : State) (v : ControlStore) : (m.setStore v).calls = m.calls := rfl
@[simp] theorem State.setStore_sig (m : State) (v : ControlStore) : (m.setStore v).sig = m.sig := rfl
@[simp] theorem State.setStore_self (m : State) : m.setStore m.store = m := rfl

@[simp] theorem State.setProm_regs (m : State) (v : OpcodeTable) : (m.setProm v).regs = m.regs := rfl
@[simp] theorem State.setProm_acc (m : State) (v : OpcodeTable) : (m.setProm v).acc = m.acc := rfl
@[simp] theorem State.setProm_uS (m : State) (v : OpcodeTable) : (m.setProm v).uS = m.uS := rfl
@[simp] theorem State.setProm_mS (m : State) (v : OpcodeTable) : (m.setProm v).mS = m.mS := rfl
@[simp] theorem State.setProm_ir (m : State) (v : OpcodeTable) : (m.setProm v).ir = m.ir := rfl
@[simp] theorem State.setProm_pc (m : State) (v : OpcodeTable) : (m.setProm v).pc = m.pc := rfl
@[simp] theorem State.setProm_abus (m : State) (v : OpcodeTable) : (m.setProm v).abus = m.abus := rfl
@[simp] theorem State.setProm_dbus (m : State) (v : OpcodeTable) : (m.setProm v).dbus = m.dbus := rfl
@[simp] theorem State.setProm_mic (m : State) (v : OpcodeTable) : (m.setProm v).mic = m.mic := rfl
@[simp] theorem State.setProm_stack (m : State) (v : OpcodeTable) : (m.setProm v).stack = m.stack := rfl
@[simp] theorem State.setProm_mem (m : State) (v : OpcodeTable) : (m.setProm v).mem = m.mem := rfl
@[simp] theorem State.setProm_store (m : State) (v : OpcodeTable) : (m.setProm v).store = m.store := rfl
@[simp] theorem State.setProm_prom (m : State) (v : OpcodeTable) : (m.setProm v).prom = v := rfl
@[simp] theorem State.setProm_cycles (m : State) (v : OpcodeTable) : (m.setProm v).cycles = m.cycles := rfl
@[simp] theorem State.setProm_outcome (m : State) (v : OpcodeTable) : (m.setProm v).outcome = m.outcome := rfl
@[simp] theorem State.setProm_stepLimit (m : State) (v : OpcodeTable) : (m.setProm v).stepLimit = m.stepLimit := rfl
@[simp] theorem State.setProm_calls (m : State) (v : OpcodeTable) : (m.setProm v).calls = m.calls := rfl
@[simp] theorem State.setProm_sig (m : State) (v : OpcodeTable) : (m.setProm v).sig = m.sig := rfl
@[simp] theorem State.setProm_self (m : State) : m.setProm m.prom = m := rfl

@[simp] theorem State.setCycles_regs (m : State) (v : Nat) : (m.setCycles v).regs = m.regs := rfl
@[simp] theorem State.setCycles_acc (m : State) (v : Nat) : (m.setCycles v).acc = m.acc := rfl
@[simp] theorem State.setCycles_uS (m : State) (v : Nat) : (m.setCycles v).uS = m.uS := rfl
@[simp] theorem State.setCycles_mS (m : State) (v : Nat) : (m.setCycles v).mS = m.mS := rfl
@[simp] theorem State.setCycles_ir (m : State) (v : Nat) : (m.setCycles v).ir = m.ir := rfl
@[simp] theorem State.setCycles_pc (m : State) (v : Nat) : (m.setCycles v).pc = m.pc := rfl
@[simp] theorem State.setCycles_abus (m : State) (v : Nat) : (m.setCycles v).abus = m.abus := rfl
@[simp] theorem State.setCycles_dbus (m : State) (v : Nat) : (m.setCycles v).dbus = m.dbus := rfl
@[simp] theorem State.setCycles_mic (m : State) (v : Nat) : (m.setCycles v).mic = m.mic := rfl
@[simp] theorem State.setCycles_stack (m : State) (v : Nat) : (m.setCycles v).stack = m.stack := rfl
@[simp] theorem State.setCycles_mem (m : State) (v : Nat) : (m.setCycles v).mem = m.mem := rfl
@[simp] theorem State.setCycles_store (m : State) (v : Nat) : (m.setCycles v).store = m.store := rfl
@[simp] theorem State.setCycles_prom (m : State) (v : Nat) : (m.setCycles v).prom = m.prom := rfl
@[simp] theorem State.setCycles_cycles (m : State) (v : Nat) : (m.setCycles v).cycles = v := rfl
@[simp] theorem State.setCycles_outcome (m : State) (v : Nat) : (m.setCycles v).outcome = m.outcome := rfl
@[simp] theorem State.setCycles_stepLimit (m : State) (v : Nat) : (m.setCycles v).stepLimit = m.stepLimit := rfl
@[simp] theorem State.setCycles_calls (m : State) (v : Nat) : (m.setCycles v).calls = m.calls := rfl
@[simp] theorem State.setCycles_sig (m : State) (v : Nat) : (m.setCycles v).sig = m.sig := rfl
@[simp] theorem State.setCycles_self (m : State) : m.setCycles m.cycles = m := rfl

@[simp] theorem State.setOutcome_regs (m : State) (v : RunOutcome) : (m.setOutcome v).regs = m.regs := rfl
@[simp] theorem State.setOutcome_acc (m : State) (v : RunOutcome) : (m.setOutcome v).acc = m.acc := rfl
@[simp] theorem State.setOutcome_uS (m : State) (v : RunOutcome) : (m.setOutcome v).uS = m.uS := rfl
@[simp] theorem State.setOutcome_mS (m : State) (v : RunOutcome) : (m.setOutcome v).mS = m.mS := rfl
@[simp] theorem State.setOutcome_ir (m : State) (v : RunOutcome) : (m.setOutcome v).ir = m.ir := rfl
@[simp] theorem State.setOutcome_pc (m : State) (v : RunOutcome) : (m.setOutcome v).pc = m.pc := rfl
@[simp] theorem State.setOutcome_abus (m : State) (v : RunOutcome) : (m.setOutcome v).abus = m.abus := rfl
@[simp] theorem State.setOutcome_dbus (m : State) (v : RunOutcome) : (m.setOutcome v).dbus = m.dbus := rfl
@[simp] theorem State.setOutcome_mic (m : State) (v : RunOutcome) : (m.setOutcome v).mic = m.mic := rfl
@[simp] theorem State.setOutcome_stack (m : State) (v : RunOutcome) : (m.setOutcome v).stack = m.stack := rfl
@[simp] theorem State.setOutcome_mem (m : State) (v : RunOutcome) : (m.setOutcome v).mem = m.mem := rfl
@[simp] theorem State.setOutcome_store (m : State) (v : RunOutcome) : (m.setOutcome v).store = m.store := rfl
@[simp] theorem State.setOutcome_prom (m : State) (v : RunOutcome) : (m.setOutcome v).prom = m.prom := rfl
@[simp] theorem State.setOutcome_cycles (m : State) (v : RunOutcome) : (m.setOutcome v).cycles = m.cycles := rfl
@[simp] theorem State.setOutcome_outcome (m : State) (v : RunOutcome) : (m.setOutcome v).outcome = v := rfl
@[simp] theorem State.setOutcome_stepLimit (m : State) (v : RunOutcome) : (m.setOutcome v).stepLimit = m.stepLimit := rfl
@[simp] theorem State.setOutcome_calls (m : State) (v : RunOutcome) : (m.setOutcome v).calls = m.calls := rfl
@[simp] theorem State.setOutcome_sig (m : State) (v : RunOutcome) : (m.setOutcome v).sig = m.sig := rfl
@[simp] theorem State.setOutcome_self (m : State) : m.setOutcome m.outcome = m := rfl

@[simp] theorem State.setStepLimit_regs (m : State) (v : Nat) : (m.setStepLimit v).regs = m.regs := rfl
@[simp] theorem State.setStepLimit_acc (m : State) (v : Nat) : (m.setStepLimit v).acc = m.acc := rfl
@[simp] theorem State.setStepLimit_uS (m : State) (v : Nat) : (m.setStepLimit v).uS = m.uS := rfl
@[simp] theorem State.setStepLimit_mS (m : State) (v : Nat) : (m.setStepLimit v).mS = m.mS := rfl
@[simp] theorem State.setStepLimit_ir (m : State) (v : Nat) : (m.setStepLimit v).ir = m.ir := rfl
@[simp] theorem State.setStepLimit_pc (m : State) (v : Nat) : (m.setStepLimit v).pc = m.pc := rfl
@[simp] theorem State.setStepLimit_abus (m : State) (v : Nat) : (m.setStepLimit v).abus = m.abus := rfl
@[simp] theorem State.setStepLimit_dbus (m : State) (v : Nat) : (m.setStepLimit v).dbus = m.dbus := rfl
@[simp] theorem State.setStepLimit_mic (m : State) (v : Nat) : (m.setStepLimit v).mic = m.mic := rfl
@[simp] theorem State.setStepLimit_stack (m : State) (v : Nat) : (m.setStepLimit v).stack = m.stack := rfl
@[simp] theorem State.setStepLimit_mem (m : State) (v : Nat) : (m.setStepLimit v).mem = m.mem := rfl
@[simp] theorem State.setStepLimit_store (m : State) (v : Nat) : (m.setStepLimit v).store = m.store := rfl
@[simp] theorem State.setStepLimit_prom (m : State) (v : Nat) : (m.setStepLimit v).prom = m.prom := rfl
@[simp] theorem State.setStepLimit_cycles (m : State) (v : Nat) : (m.setStepLimit v).cycles = m.cycles := rfl
@[simp] theorem State.setStepLimit_outcome (m : State) (v : Nat) : (m.setStepLimit v).outcome = m.outcome := rfl
@[simp] theorem State.setStepLimit_stepLimit (m : State) (v : Nat) : (m.setStepLimit v).stepLimit = v := rfl
@[simp] theorem State.setStepLimit_calls (m : State) (v : Nat) : (m.setStepLimit v).calls = m.calls := rfl
@[simp] theorem State.setStepLimit_sig (m : State) (v : Nat) : (m.setStepLimit v).sig = m.sig := rfl
@[simp] theorem State.setStepLimit_self (m : State) : m.setStepLimit m.stepLimit = m := rfl

@[simp] theorem State.setCalls_regs (m : State) (v : Nat) : (m.setCalls v).regs = m.regs := rfl
@[simp] theorem State.setCalls_acc (m : State) (v : Nat) : (m.setCalls v).acc = m.acc := rfl
@[simp] theorem State.setCalls_uS (m : State) (v : Nat) : (m.setCalls v).uS = m.uS := rfl
@[simp] theorem State.setCalls_mS (m : State) (v : Nat) : (m.setCalls v).mS = m.mS := rfl
@[simp] theorem State.setCalls_ir (m : State) (v : Nat) : (m.setCalls v).ir = m.ir := rfl
@[simp] theorem State.setCalls_pc (m : State) (v : Nat) : (m.setCalls v).pc = m.pc := rfl
@[simp] theorem State.setCalls_abus (m : State) (v : Nat) : (m.setCalls v).abus = m.abus := rfl
@[simp] theorem State.setCalls_dbus (m : State) (v : Nat) : (m.setCalls v).dbus = m.dbus := rfl
@[simp] theorem State.setCalls_mic (m : State) (v : Nat) : (m.setCalls v).mic = m.mic := rfl
@[simp] theorem State.setCalls_stack (m : State) (v : Nat) : (m.setCalls v).stack = m.stack := rfl
@[simp] theorem State.setCalls_mem (m : State) (v : Nat) : (m.setCalls v).mem = m.mem := rfl
@[simp] theorem State.setCalls_store (m : State) (v : Nat) : (m.setCalls v).store = m.store := rfl
@[simp] theorem State.setCalls_prom (m : State) (v : Nat) : (m.setCalls v).prom = m.prom := rfl
@[simp] theorem State.setCalls_cycles (m : State) (v : Nat) : (m.setCalls v).cycles = m.cycles := rfl
@[simp] theorem State.setCalls_outcome (m : State) (v : Nat) : (m.setCalls v).outcome = m.outcome := rfl
@[simp] theorem State.setCalls_stepLimit (m : State) (v : Nat) : (m.setCalls v).stepLimit = m.stepLimit := rfl
@[simp] theorem State.setCalls_calls (m : State) (v : Nat) : (m.setCalls v).calls = v := rfl
@[simp] theorem State.setCalls_sig (m : State) (v : Nat) : (m.setCalls v).sig = m.sig := rfl
@[simp] theorem State.setCalls_self (m : State) : m.setCalls m.calls = m := rfl

@[simp] theorem State.setSig_regs (m : State) (v : Signals) : (m.setSig v).regs = m.regs := rfl
@[simp] theorem State.setSig_acc (m : State) (v : Signals) : (m.setSig v).acc = m.acc := rfl
@[simp] theorem State.setSig_uS (m : State) (v : Signals) : (m.setSig v).uS = m.uS := rfl
@[simp] theorem State.setSig_mS (m : State) (v : Signals) : (m.setSig v).mS = m.mS := rfl
@[simp] theorem State.setSig_ir (m : State) (v : Signals) : (m.setSig v).ir = m.ir := rfl
@[simp] theorem State.setSig_pc (m : State) (v : Signals) : (m.setSig v).pc = m.pc := rfl
@[simp] theorem State.setSig_abus (m : State) (v : Signals) : (m.setSig v).abus = m.abus := rfl
@[simp] theorem State.setSig_dbus (m : State) (v : Signals) : (m.setSig v).dbus = m.dbus := rfl
@[simp] theorem State.setSig_mic (m : State) (v : Signals) : (m.setSig v).mic = m.mic := rfl
@[simp] theorem State.setSig_stack (m : State) (v : Signals) : (m.setSig v).stack = m.stack := rfl
@[simp] theorem State.setSig_mem (m : State) (v : Signals) : (m.setSig v).mem = m.mem := rfl
@[simp] theorem State.setSig_store (m : State) (v : Signals) : (m.setSig v).store = m.store := rfl
@[simp] theorem State.setSig_prom (m : State) (v : Signals) : (m.setSig v).prom = m.prom := rfl
@[simp] theorem State.setSig_cycles (m : State) (v : Signals) : (m.setSig v).cycles = m.cycles := rfl
@[simp] theorem State.setSig_outcome (m : State) (v : Signals) : (m.setSig v).outcome = m.outcome := rfl
@[simp] theorem State.setSig_stepLimit (m : State) (v : Signals) : (m.setSig v).stepLimit = m.stepLimit := rfl
@[simp] theorem State.setSig_calls (m : State) (v : Signals) : (m.setSig v).calls = m.calls := rfl
@[simp] theorem State.setSig_sig (m : State) (v : Signals) : (m.setSig v).sig = v := rfl
@[simp] theorem State.setSig_self (m : State) : m.setSig m.sig = m := rfl

/-- Two states are equal when every field is. -/
theorem State.ext_fields {a b : State}
(h0 : a.regs = b.regs) (h1 : a.acc = b.acc) (h2 : a.uS = b.uS) (h3 : a.mS = b.mS) (h4 : a.ir = b.ir) (h5 : a.pc = b.pc) (h6 : a.abus = b.abus) (h7 : a.dbus = b.dbus) (h8 : a.mic = b.mic) (h9 : a.stack = b.stack) (h10 : a.mem = b.mem) (h11 : a.store = b.store) (h12 : a.prom = b.prom) (h13 : a.cycles = b.cycles) (h14 : a.outcome = b.outcome) (h15 : a.stepLimit = b.stepLimit) (h16 : a.calls = b.calls) (h17 : a.sig = b.sig) : a = b := by
  cases a; cases b; simp_all

end Sys2Proof.Machine
end

