-- ==== Sys2Proof/Laws/Ops.lean ====
section
/-! SUPPORT. What each shared operation of Ops.lean and Operands.lean does, once: callers cite these and do not unfold. -/

namespace Sys2Proof.Machine

/-! ## Registers -/

/-- A register reads as it was written. -/
@[simp] theorem State.reg_setReg_same (s : State) (i : RegIx) (v : Word) : (s.setReg i v).reg i = v := by
  simp [State.reg, State.setReg]

/-- Writing one register leaves the others alone. -/
theorem State.reg_setReg_other (s : State) {i j : RegIx} (v : Word) (h : j ≠ i) : (s.setReg i v).reg j = s.reg j := by
  have hn : i.toNat ≠ j.toNat := fun e => h (BitVec.eq_of_toNat_eq e).symm
  simp only [State.reg, State.setReg, State.setRegs_regs]
  exact Vector.getElem_set_ne (hi := i.isLt) (hj := j.isLt) hn

/-- Writing a register changes the register file only. -/
theorem State.setReg_eq (s : State) (i : RegIx) (v : Word) :
    s.setReg i v = s.setRegs (s.regs.set i.toNat v i.isLt) := rfl

/-- A register write touches no other field. -/
@[simp] theorem State.setReg_acc (s : State) (i : RegIx) (v : Word) : (s.setReg i v).acc = s.acc := rfl
@[simp] theorem State.setReg_uS (s : State) (i : RegIx) (v : Word) : (s.setReg i v).uS = s.uS := rfl
@[simp] theorem State.setReg_mS (s : State) (i : RegIx) (v : Word) : (s.setReg i v).mS = s.mS := rfl
@[simp] theorem State.setReg_ir (s : State) (i : RegIx) (v : Word) : (s.setReg i v).ir = s.ir := rfl
@[simp] theorem State.setReg_pc (s : State) (i : RegIx) (v : Word) : (s.setReg i v).pc = s.pc := rfl
@[simp] theorem State.setReg_abus (s : State) (i : RegIx) (v : Word) : (s.setReg i v).abus = s.abus := rfl
@[simp] theorem State.setReg_dbus (s : State) (i : RegIx) (v : Word) : (s.setReg i v).dbus = s.dbus := rfl
@[simp] theorem State.setReg_mic (s : State) (i : RegIx) (v : Word) : (s.setReg i v).mic = s.mic := rfl
@[simp] theorem State.setReg_stack (s : State) (i : RegIx) (v : Word) : (s.setReg i v).stack = s.stack := rfl
@[simp] theorem State.setReg_mem (s : State) (i : RegIx) (v : Word) : (s.setReg i v).mem = s.mem := rfl
@[simp] theorem State.setReg_store (s : State) (i : RegIx) (v : Word) : (s.setReg i v).store = s.store := rfl
@[simp] theorem State.setReg_prom (s : State) (i : RegIx) (v : Word) : (s.setReg i v).prom = s.prom := rfl
@[simp] theorem State.setReg_cycles (s : State) (i : RegIx) (v : Word) : (s.setReg i v).cycles = s.cycles := rfl
@[simp] theorem State.setReg_outcome (s : State) (i : RegIx) (v : Word) : (s.setReg i v).outcome = s.outcome := rfl
@[simp] theorem State.setReg_stepLimit (s : State) (i : RegIx) (v : Word) : (s.setReg i v).stepLimit = s.stepLimit := rfl
@[simp] theorem State.setReg_calls (s : State) (i : RegIx) (v : Word) : (s.setReg i v).calls = s.calls := rfl
@[simp] theorem State.setReg_sig (s : State) (i : RegIx) (v : Word) : (s.setReg i v).sig = s.sig := rfl

/-! ## Faults, the sequencer, the opcode mapping -/

/-- Raising a fault sets the outcome, drops the signals and changes nothing else (R401, R402). -/
theorem raise_eq (k : Fault) (s : State) :
    raise k s = .next ((s.setOutcome (.faulted k)).setSig Signals.rest) := rfl

/-- The fault record of a faulted state is the kind and `mic` (R404). -/
theorem faultRecord_raise (k : Fault) (s : State) :
    faultRecord ((s.setOutcome (.faulted k)).setSig Signals.rest) = some (k, s.mic) := rfl

/-- `cond` is the third row of R282's table. -/
theorem condHolds_iff (ccen : Bool) (s : State) : condHolds ccen s = true ↔ ccen = true ∧ s.sig.cbit = false := by
  simp [condHolds]

/-- Pushing: a full stack faults with nothing changed, and otherwise the entry is on top and `mic` is the target (R283). -/
theorem pushAndGo_cases (v target : Nat) (s : State) :
    (Config.stackDepth ≤ s.stack.length ∧ pushAndGo v target s = raise .stackOverflow s) ∨
      (s.stack.length < Config.stackDepth ∧
        pushAndGo v target s = .next ((s.setStack (s.stack ++ [v])).setMic target)) := by
  unfold pushAndGo
  split
  · exact .inl ⟨‹_›, rfl⟩
  · exact .inr ⟨by omega, rfl⟩

/-- Popping: an empty stack faults with nothing changed, and otherwise the top entry leaves the stack and gives `mic`
(R284). -/
theorem popAndGo_cases (target : Nat → Nat) (s : State) :
    (s.stack = [] ∧ popAndGo target s = raise .stackUnderflow s) ∨
      (∃ rest v, s.stack = rest ++ [v] ∧ popAndGo target s = .next ((s.setStack rest).setMic (target v))) := by
  rcases List.eq_nil_or_concat s.stack with h | ⟨rest, v, h⟩
  · exact .inl ⟨h, by simp [popAndGo, h]⟩
  · refine .inr ⟨rest, v, by simpa using h, ?_⟩
    simp [popAndGo, h, goTo]

/-- Mapping an opcode: 0 maps to 0, a listed opcode to its entry, and any other faults (R336). -/
theorem mapOpcode_cases (s : State) :
    (macroOpcode s.ir = 0 ∧ mapOpcode s = .next (s.setSig { s.sig with mapped := 0 })) ∨
      (macroOpcode s.ir ≠ 0 ∧ s.prom.read (macroOpcode s.ir) = none ∧ mapOpcode s = raise .unmappedMacroOpcode s) ∨
      (∃ a, macroOpcode s.ir ≠ 0 ∧ s.prom.read (macroOpcode s.ir) = some a ∧
        mapOpcode s = .next (s.setSig { s.sig with mapped := a.toNat })) := by
  unfold mapOpcode
  split
  · exact .inl ⟨‹_›, rfl⟩
  · cases h : s.prom.read (macroOpcode s.ir) with
    | none => exact .inr (.inl ⟨‹_›, rfl, rfl⟩)
    | some a => exact .inr (.inr ⟨a, ‹_›, rfl, rfl⟩)

/-! ## Placing a word -/

/-- A machine made ready fetches at its `mic`, below its ceiling. -/
theorem readyToFetch_spec (s : State) :
    (readyToFetch s).outcome = .running ∧ (readyToFetch s).calls < (readyToFetch s).stepLimit ∧
      (readyToFetch s).mic < Config.microSpace := by
  unfold readyToFetch
  dsimp only
  split
  · rename_i h
    refine ⟨rfl, ?_, h⟩
    simp
  · refine ⟨rfl, ?_, ?_⟩
    · simp
    · simp [Config.microSpace]

/-- A placed control word is what the next cycle fetches. -/
theorem fetchWord_placeControl {s : State} (h : s.mic < Config.microSpace) (w : ControlWord) :
    fetchWord (placeControl s w) = some w := ControlStore.read_insert_same s.store w h

end Sys2Proof.Machine
end

