-- ==== Sys2Proof/Laws/Flags.lean ====
section
/-! SUPPORT. What the flag computation and the condition do, once. -/

namespace Sys2Proof.Machine

/-- A 16-bit value is in 0..65535. -/
theorem asInt_bounds (w : Word) : 0 ≤ asInt w ∧ asInt w ≤ 0xFFFF := by
  have := w.isLt
  simp only [asInt]
  omega

/-- Masking keeps a value modulo 2^16 (R11). -/
theorem mask16_toNat (v : Int) : ((mask16 v).toNat : Int) = v % 65536 := by
  simp only [mask16, BitVec.toNat_ofInt]
  omega

/-- Masking a 16-bit value changes nothing. -/
@[simp] theorem mask16_asInt (w : Word) : mask16 (asInt w) = w := by
  simp [mask16, asInt]

/-- The masked value is 0 exactly when the raw value is a multiple of 2^16. -/
theorem mask16_eq_zero (v : Int) : mask16 v = 0 ↔ v % 65536 = 0 := by
  rw [← mask16_toNat, ← BitVec.toNat_inj]
  simp

/-- The six flag values, by where the raw result lies (R199). -/
theorem flagsOf_cases (raw : Int) :
    (raw < 0 ∧ flagsOf raw = if mask16 raw = 0 then 0b1111 else 0b1110) ∨
      (0 ≤ raw ∧ raw ≤ 0xFFFF ∧ flagsOf raw = if mask16 raw = 0 then 0b0001 else 0b0000) ∨
      (0xFFFF < raw ∧ flagsOf raw = if mask16 raw = 0 then 0b1101 else 0b1100) := by
  unfold flagsOf
  rcases lt_trichotomy raw 0 with h | h | h
  · refine .inl ⟨h, ?_⟩
    rw [if_pos (Or.inr h), if_pos h]
    split <;> rfl
  · subst h
    refine .inr (.inl ⟨le_refl _, by decide, ?_⟩)
    decide
  · by_cases hm : raw ≤ 0xFFFF
    · refine .inr (.inl ⟨le_of_lt h, hm, ?_⟩)
      rw [if_neg (by omega), if_neg (by omega)]
      split <;> rfl
    · refine .inr (.inr ⟨by omega, ?_⟩)
      rw [if_pos (Or.inl (by omega)), if_neg (by omega)]
      split <;> rfl

/-- The carry-in is 0 or 1 (R241). -/
theorem carryIn_cases (s : State) :
    (statusC s.uS = false ∧ carryIn s = 0) ∨ (statusC s.uS = true ∧ carryIn s = 1) := by
  unfold carryIn
  cases statusC s.uS <;> simp

/-- A function's result and flags are all that it latches. -/
theorem latchResult_eq (raw : Int) (s : State) :
    latchResult raw s = .next (s.setSig { s.sig with f := mask16 raw, flags := flagsOf raw }) := rfl

/-- A condition without a source is 0 (R245). -/
theorem latchCondition_none (test : (c z : Bool) → Bool) {s : State} (h : s.sig.src = none) :
    latchCondition test s = .next (s.setSig { s.sig with cbit := false }) := by
  simp [latchCondition, h]

/-- A condition with a source tests its C and Z bits (R243, R244). -/
theorem latchCondition_some (test : (c z : Bool) → Bool) {s : State} {w : Status} (h : s.sig.src = some w) :
    latchCondition test s = .next (s.setSig { s.sig with cbit := test (statusC w) (statusZ w) }) := by
  simp [latchCondition, h]

end Sys2Proof.Machine
end

