-- ==== Sys2Proof/Laws/Cycle.lean ====
section
/-! SUPPORT. What the rows and the cycle engine can do, once: every row answers a next state and leaves the
configuration and the counters alone; a cycle runs its rows in order until one faults. -/

namespace Sys2Proof.Machine

/-! ## Rows -/

/-- What every row leaves unchanged: the read-only configuration (R46) and the run's counters. -/
structure SameConfig (s t : State) : Prop where
  store : t.store = s.store
  prom : t.prom = s.prom
  stepLimit : t.stepLimit = s.stepLimit
  calls : t.calls = s.calls
  cycles : t.cycles = s.cycles

theorem SameConfig.refl (s : State) : SameConfig s s := ⟨rfl, rfl, rfl, rfl, rfl⟩

theorem SameConfig.trans {s t u : State} (h : SameConfig s t) (k : SameConfig t u) : SameConfig s u :=
  ⟨k.store.trans h.store, k.prom.trans h.prom, k.stepLimit.trans h.stepLimit, k.calls.trans h.calls,
    k.cycles.trans h.cycles⟩

/-- An answer that is a next state with the configuration and the counters unchanged. -/
def Answers (s : State) (o : Result) : Prop := ∃ t, o = .next t ∧ SameConfig s t

theorem answers_pushAndGo (v target : Nat) (s : State) : Answers s (pushAndGo v target s) := by
  rcases pushAndGo_cases v target s with ⟨_, h⟩ | ⟨_, h⟩ <;> exact ⟨_, h, rfl, rfl, rfl, rfl, rfl⟩

theorem answers_popAndGo (target : Nat → Nat) (s : State) : Answers s (popAndGo target s) := by
  rcases popAndGo_cases target s with ⟨_, h⟩ | ⟨_, _, _, h⟩ <;> exact ⟨_, h, rfl, rfl, rfl, rfl, rfl⟩

theorem answers_mapOpcode (s : State) : Answers s (mapOpcode s) := by
  rcases mapOpcode_cases s with ⟨_, h⟩ | ⟨_, _, h⟩ | ⟨_, _, _, h⟩ <;> exact ⟨_, h, rfl, rfl, rfl, rfl, rfl⟩

theorem answers_presentMacro (w : Word) (s : State) : Answers s (presentMacro w s) := by
  obtain ⟨t, h, k⟩ := answers_mapOpcode (s.setIr w)
  exact ⟨t, h, k.store, k.prom, k.stepLimit, k.calls, k.cycles⟩

/-- Every row answers a next state, and leaves the configuration and the counters alone. -/
theorem exec_answers (i : Instr) (s : State) : Answers s (exec i s) := by
  cases i
  case ciCjs bar ccen =>
    show Answers s (execCiCjs bar ccen s)
    unfold execCiCjs
    split
    · exact ⟨_, rfl, rfl, rfl, rfl, rfl, rfl⟩
    · exact answers_pushAndGo _ _ s
  case ciCjp bar ccen =>
    show Answers s (execCiCjp bar ccen s)
    unfold execCiCjp
    split <;> exact ⟨_, rfl, rfl, rfl, rfl, rfl, rfl⟩
  case ciPush bar => exact answers_pushAndGo _ _ s
  case ciCrtn ccen =>
    show Answers s (execCiCrtn ccen s)
    unfold execCiCrtn
    split
    · exact ⟨_, rfl, rfl, rfl, rfl, rfl, rfl⟩
    · exact answers_popAndGo _ s
  case ciCjpp bar ccen =>
    show Answers s (execCiCjpp bar ccen s)
    unfold execCiCjpp
    split
    · exact ⟨_, rfl, rfl, rfl, rfl, rfl, rfl⟩
    · exact answers_popAndGo _ s
  all_goals first
    | exact answers_presentMacro _ s
    | exact ⟨_, rfl, rfl, rfl, rfl, rfl, rfl⟩

/-! ## The cycle engine -/

/-- What comes next runs on a running state and not otherwise. -/
theorem andThen_next (s : State) (k : State → Result) :
    andThen (.next s) k = if s.outcome = .running then k s else .next s := rfl

theorem andThen_running {s : State} (h : s.outcome = .running) (k : State → Result) : andThen (.next s) k = k s :=
  if_pos h

theorem andThen_ended {s : State} (h : s.outcome ≠ .running) (k : State → Result) :
    andThen (.next s) k = .next s := if_neg h

@[simp] theorem runOrders_nil (s : State) : runOrders [] s = .next s := rfl

@[simp] theorem runOrders_cons (i : Instr) (rest : List Instr) (s : State) :
    runOrders (i :: rest) s = andThen (exec i s) (runOrders rest) := rfl

theorem answers_andThen {s : State} {o : Result} {k : State → Result} (ho : Answers s o)
    (hk : ∀ t, Answers t (k t)) : Answers s (andThen o k) := by
  obtain ⟨t, rfl, ht⟩ := ho
  rw [andThen_next]
  split
  · obtain ⟨u, hu, hc⟩ := hk t
    exact ⟨u, hu, ht.trans hc⟩
  · exact ⟨t, rfl, ht⟩

/-- Rows in sequence answer a next state. -/
theorem runOrders_answers (l : List Instr) (s : State) : Answers s (runOrders l s) := by
  induction l generalizing s with
  | nil => exact ⟨s, rfl, SameConfig.refl s⟩
  | cons i rest ih => exact answers_andThen (exec_answers i s) ih

/-- Rows in two lists run one list after the other. -/
theorem runOrders_append (l m : List Instr) {s : State} (h : s.outcome = .running) :
    runOrders (l ++ m) s = andThen (runOrders l s) (runOrders m) := by
  induction l generalizing s with
  | nil => rw [runOrders_nil, andThen_running h]; rfl
  | cons i rest ih =>
    rw [List.cons_append, runOrders_cons, runOrders_cons]
    obtain ⟨t, ht, _⟩ := exec_answers i s
    rw [ht]
    by_cases hr : t.outcome = .running
    · rw [andThen_running hr, andThen_running hr, ih hr]
    · rw [andThen_ended hr, andThen_ended hr, andThen_ended hr]

/-- A row of a macro word presents that word. -/
theorem exec_of_decodeMacro {w : Word} {i : Instr} (h : decodeMacro w = .ok i) (s : State) :
    exec i s = presentMacro w s := by
  have he := encode_of_decodeMacro h
  cases i
  all_goals first
    | (rw [encode] at he
       cases he
       rfl)
    | cases he

/-- Step 9 is the opcode mapping, whichever row `IR` holds (R336). -/
theorem mapStage_eq (s : State) : mapStage s = mapOpcode s := by
  unfold mapStage
  cases h : decodeMacro s.ir with
  | ok i => simp only [exec_of_decodeMacro h, presentMacro, State.setIr_self]
  | error e => rfl

/-- A step of a machine that runs below its ceiling is one call of `cycle()`. -/
theorem step_running {s : State} (h : s.outcome = .running) (hl : s.calls < s.stepLimit) :
    step s = cycle (s.setCalls (s.calls + 1)) := by
  have : ¬ s.stepLimit ≤ s.calls := by omega
  simp [step, turn, h, this]

/-- A step at the ceiling ends the run (R456). -/
theorem step_ceiling {s : State} (h : s.outcome = .running) (hl : s.stepLimit ≤ s.calls) :
    step s = .next (s.setOutcome .stepLimitExceeded) := by
  simp [step, turn, h, hl]

/-- A halted machine rests. -/
theorem step_halted {s : State} (h : s.outcome = .halted) : step s = .next s := by simp [step, turn, h]

/-- A machine at its ceiling rests. -/
theorem step_exceeded {s : State} (h : s.outcome = .stepLimitExceeded) : step s = .next s := by simp [step, turn, h]

/-- A faulted machine answers its fault. -/
theorem step_faulted {s : State} {k : Fault} (h : s.outcome = .faulted k) : step s = .fault k := by
  simp [step, turn, h]

end Sys2Proof.Machine
end

