-- ==== Sys2Proof/Laws/PerInstr.lean ====
section
/-! SUPPORT. The family `RoundTrip`, one lemma for each row: a well-formed row's bits read back as the row. -/

namespace Sys2Proof.Laws.RoundTrip

/-- A row's bits, read in its family, give the row with every operand it was written with. -/
def Statement (i : Instr) : Prop := WellFormed i → decodeEncoded i.family (encode i) = some i

/-- The shape of every micro-order: its field read from the word that holds it alone. -/
theorem of_row {i : Instr} (hw : encode i = .control i.rowFields.toWord)
    (h0 : i.rowFields.mwe = false ∨ i.rowFields.ir = false) (hr : i.rowFields.row i.family = some i) : Statement i := by
  intro _
  rw [hw, decodeEncoded, decodeRow, decodeWord_toWord h0]
  exact hr

/-- The shape of every macro word. -/
theorem of_macro {i : Instr} {w : Word} (hw : encode i = .macroWord w) (hd : decodeMacro w = .ok i) : Statement i := by
  intro _
  rw [hw, decodeEncoded, hd]
  rfl

theorem halt : Statement (.halt) := by
  intro _
  rfl
theorem ciReset : Statement (.ciReset) := of_row rfl (.inl rfl) rfl
theorem ciCjs (bar : BitVec 12) (ccen : Bool) : Statement (.ciCjs bar ccen) := of_row rfl (.inl rfl) rfl
theorem ciJmap : Statement (.ciJmap) := of_row rfl (.inl rfl) rfl
theorem ciCjp (bar : BitVec 12) (ccen : Bool) : Statement (.ciCjp bar ccen) := of_row rfl (.inl rfl) rfl
theorem ciPush (bar : BitVec 12) : Statement (.ciPush bar) := of_row rfl (.inl rfl) rfl
theorem ciCrtn (ccen : Bool) : Statement (.ciCrtn ccen) := of_row rfl (.inl rfl) rfl
theorem ciCjpp (bar : BitVec 12) (ccen : Bool) : Statement (.ciCjpp bar ccen) := of_row rfl (.inl rfl) rfl
theorem ciCont : Statement (.ciCont) := of_row rfl (.inl rfl) rfl
theorem ciInvalid0101 : Statement (.ciInvalid0101) := of_row rfl (.inl rfl) rfl
theorem ciInvalid0110 : Statement (.ciInvalid0110) := of_row rfl (.inl rfl) rfl
theorem ciInvalid0111 : Statement (.ciInvalid0111) := of_row rfl (.inl rfl) rfl
theorem ciInvalid1000 : Statement (.ciInvalid1000) := of_row rfl (.inl rfl) rfl
theorem ciInvalid1001 : Statement (.ciInvalid1001) := of_row rfl (.inl rfl) rfl
theorem ciInvalid1100 : Statement (.ciInvalid1100) := of_row rfl (.inl rfl) rfl
theorem ciInvalid1101 : Statement (.ciInvalid1101) := of_row rfl (.inl rfl) rfl
theorem ciInvalid1111 : Statement (.ciInvalid1111) := of_row rfl (.inl rfl) rfl
theorem icNone : Statement (.icNone) := of_row rfl (.inl rfl) rfl
theorem icAbusPc : Statement (.icAbusPc) := of_row rfl (.inl rfl) rfl
theorem icPcInc : Statement (.icPcInc) := of_row rfl (.inl rfl) rfl
theorem icDbusPc : Statement (.icDbusPc) := of_row rfl (.inl rfl) rfl
theorem icPcDbus : Statement (.icPcDbus) := of_row rfl (.inl rfl) rfl
theorem icMalformed0011 : Statement (.icMalformed0011) := of_row rfl (.inl rfl) rfl
theorem icMalformed0101 : Statement (.icMalformed0101) := of_row rfl (.inl rfl) rfl
theorem icMalformed0110 : Statement (.icMalformed0110) := of_row rfl (.inl rfl) rfl
theorem icMalformed0111 : Statement (.icMalformed0111) := of_row rfl (.inl rfl) rfl
theorem icMalformed1001 : Statement (.icMalformed1001) := of_row rfl (.inl rfl) rfl
theorem icMalformed1010 : Statement (.icMalformed1010) := of_row rfl (.inl rfl) rfl
theorem icMalformed1011 : Statement (.icMalformed1011) := of_row rfl (.inl rfl) rfl
theorem icMalformed1100 : Statement (.icMalformed1100) := of_row rfl (.inl rfl) rfl
theorem icMalformed1101 : Statement (.icMalformed1101) := of_row rfl (.inl rfl) rfl
theorem icMalformed1110 : Statement (.icMalformed1110) := of_row rfl (.inl rfl) rfl
theorem icMalformed1111 : Statement (.icMalformed1111) := of_row rfl (.inl rfl) rfl
theorem dsAq : Statement (.dsAq) := of_row rfl (.inl rfl) rfl
theorem dsAb : Statement (.dsAb) := of_row rfl (.inl rfl) rfl
theorem dsZq : Statement (.dsZq) := of_row rfl (.inl rfl) rfl
theorem dsZb : Statement (.dsZb) := of_row rfl (.inl rfl) rfl
theorem dsZa : Statement (.dsZa) := of_row rfl (.inl rfl) rfl
theorem dsDa : Statement (.dsDa) := of_row rfl (.inl rfl) rfl
theorem dsDq : Statement (.dsDq) := of_row rfl (.inl rfl) rfl
theorem dsDz : Statement (.dsDz) := of_row rfl (.inl rfl) rfl
theorem opAdd : Statement (.opAdd) := of_row rfl (.inl rfl) rfl
theorem opSubr : Statement (.opSubr) := of_row rfl (.inl rfl) rfl
theorem opSubs : Statement (.opSubs) := of_row rfl (.inl rfl) rfl
theorem opOr : Statement (.opOr) := of_row rfl (.inl rfl) rfl
theorem opAnd : Statement (.opAnd) := of_row rfl (.inl rfl) rfl
theorem opNotrs : Statement (.opNotrs) := of_row rfl (.inl rfl) rfl
theorem opExor : Statement (.opExor) := of_row rfl (.inl rfl) rfl
theorem opExnor : Statement (.opExnor) := of_row rfl (.inl rfl) rfl
theorem rsNone : Statement (.rsNone) := of_row rfl (.inl rfl) rfl
theorem rsAcc : Statement (.rsAcc) := of_row rfl (.inl rfl) rfl
theorem rsRegPass : Statement (.rsRegPass) := of_row rfl (.inl rfl) rfl
theorem rsReg : Statement (.rsReg) := of_row rfl (.inl rfl) rfl
theorem rsIllegal4 : Statement (.rsIllegal4) := of_row rfl (.inl rfl) rfl
theorem rsIllegal5 : Statement (.rsIllegal5) := of_row rfl (.inl rfl) rfl
theorem rsIllegal6 : Statement (.rsIllegal6) := of_row rfl (.inl rfl) rfl
theorem rsIllegal7 : Statement (.rsIllegal7) := of_row rfl (.inl rfl) rfl
theorem yMuxNone : Statement (.yMuxNone) := of_row rfl (.inl rfl) rfl
theorem yMuxAbus : Statement (.yMuxAbus) := of_row rfl (.inl rfl) rfl
theorem yMuxDbus : Statement (.yMuxDbus) := of_row rfl (.inl rfl) rfl
theorem yMuxAbusDbus : Statement (.yMuxAbusDbus) := of_row rfl (.inl rfl) rfl
theorem selMicro : Statement (.selMicro) := of_row rfl (.inl rfl) rfl
theorem selMacro : Statement (.selMacro) := of_row rfl (.inl rfl) rfl
theorem selNone : Statement (.selNone) := of_row rfl (.inl rfl) rfl
theorem selIllegal : Statement (.selIllegal) := of_row rfl (.inl rfl) rfl
theorem copNz : Statement (.copNz) := of_row rfl (.inl rfl) rfl
theorem copZ : Statement (.copZ) := of_row rfl (.inl rfl) rfl
theorem copNc : Statement (.copNc) := of_row rfl (.inl rfl) rfl
theorem copC : Statement (.copC) := of_row rfl (.inl rfl) rfl
theorem copNcAndNz : Statement (.copNcAndNz) := of_row rfl (.inl rfl) rfl
theorem copCOrZ : Statement (.copCOrZ) := of_row rfl (.inl rfl) rfl
theorem copOther00 : Statement (.copOther00) := of_row rfl (.inl rfl) rfl
theorem copOther01 : Statement (.copOther01) := of_row rfl (.inl rfl) rfl
theorem copOther02 : Statement (.copOther02) := of_row rfl (.inl rfl) rfl
theorem copOther03 : Statement (.copOther03) := of_row rfl (.inl rfl) rfl
theorem copOther06 : Statement (.copOther06) := of_row rfl (.inl rfl) rfl
theorem copOther07 : Statement (.copOther07) := of_row rfl (.inl rfl) rfl
theorem copOther08 : Statement (.copOther08) := of_row rfl (.inl rfl) rfl
theorem copOther09 : Statement (.copOther09) := of_row rfl (.inl rfl) rfl
theorem copOther0E : Statement (.copOther0E) := of_row rfl (.inl rfl) rfl
theorem copOther0F : Statement (.copOther0F) := of_row rfl (.inl rfl) rfl
theorem copOther10 : Statement (.copOther10) := of_row rfl (.inl rfl) rfl
theorem copOther11 : Statement (.copOther11) := of_row rfl (.inl rfl) rfl
theorem copOther12 : Statement (.copOther12) := of_row rfl (.inl rfl) rfl
theorem copOther13 : Statement (.copOther13) := of_row rfl (.inl rfl) rfl
theorem copOther14 : Statement (.copOther14) := of_row rfl (.inl rfl) rfl
theorem copOther15 : Statement (.copOther15) := of_row rfl (.inl rfl) rfl
theorem copOther16 : Statement (.copOther16) := of_row rfl (.inl rfl) rfl
theorem copOther17 : Statement (.copOther17) := of_row rfl (.inl rfl) rfl
theorem copOther18 : Statement (.copOther18) := of_row rfl (.inl rfl) rfl
theorem copOther19 : Statement (.copOther19) := of_row rfl (.inl rfl) rfl
theorem copOther1A : Statement (.copOther1A) := of_row rfl (.inl rfl) rfl
theorem copOther1B : Statement (.copOther1B) := of_row rfl (.inl rfl) rfl
theorem copOther1C : Statement (.copOther1C) := of_row rfl (.inl rfl) rfl
theorem copOther1D : Statement (.copOther1D) := of_row rfl (.inl rfl) rfl
theorem copOther1E : Statement (.copOther1E) := of_row rfl (.inl rfl) rfl
theorem copOther1F : Statement (.copOther1F) := of_row rfl (.inl rfl) rfl
theorem copOther20 : Statement (.copOther20) := of_row rfl (.inl rfl) rfl
theorem copOther21 : Statement (.copOther21) := of_row rfl (.inl rfl) rfl
theorem copOther22 : Statement (.copOther22) := of_row rfl (.inl rfl) rfl
theorem copOther23 : Statement (.copOther23) := of_row rfl (.inl rfl) rfl
theorem copOther24 : Statement (.copOther24) := of_row rfl (.inl rfl) rfl
theorem copOther25 : Statement (.copOther25) := of_row rfl (.inl rfl) rfl
theorem copOther26 : Statement (.copOther26) := of_row rfl (.inl rfl) rfl
theorem copOther27 : Statement (.copOther27) := of_row rfl (.inl rfl) rfl
theorem copOther28 : Statement (.copOther28) := of_row rfl (.inl rfl) rfl
theorem copOther29 : Statement (.copOther29) := of_row rfl (.inl rfl) rfl
theorem copOther2A : Statement (.copOther2A) := of_row rfl (.inl rfl) rfl
theorem copOther2B : Statement (.copOther2B) := of_row rfl (.inl rfl) rfl
theorem copOther2C : Statement (.copOther2C) := of_row rfl (.inl rfl) rfl
theorem copOther2D : Statement (.copOther2D) := of_row rfl (.inl rfl) rfl
theorem copOther2E : Statement (.copOther2E) := of_row rfl (.inl rfl) rfl
theorem copOther2F : Statement (.copOther2F) := of_row rfl (.inl rfl) rfl
theorem copOther30 : Statement (.copOther30) := of_row rfl (.inl rfl) rfl
theorem copOther31 : Statement (.copOther31) := of_row rfl (.inl rfl) rfl
theorem copOther32 : Statement (.copOther32) := of_row rfl (.inl rfl) rfl
theorem copOther33 : Statement (.copOther33) := of_row rfl (.inl rfl) rfl
theorem copOther34 : Statement (.copOther34) := of_row rfl (.inl rfl) rfl
theorem copOther35 : Statement (.copOther35) := of_row rfl (.inl rfl) rfl
theorem copOther36 : Statement (.copOther36) := of_row rfl (.inl rfl) rfl
theorem copOther37 : Statement (.copOther37) := of_row rfl (.inl rfl) rfl
theorem copOther38 : Statement (.copOther38) := of_row rfl (.inl rfl) rfl
theorem copOther39 : Statement (.copOther39) := of_row rfl (.inl rfl) rfl
theorem copOther3A : Statement (.copOther3A) := of_row rfl (.inl rfl) rfl
theorem copOther3B : Statement (.copOther3B) := of_row rfl (.inl rfl) rfl
theorem copOther3C : Statement (.copOther3C) := of_row rfl (.inl rfl) rfl
theorem copOther3D : Statement (.copOther3D) := of_row rfl (.inl rfl) rfl
theorem copOther3E : Statement (.copOther3E) := of_row rfl (.inl rfl) rfl
theorem copOther3F : Statement (.copOther3F) := of_row rfl (.inl rfl) rfl
theorem mweRead : Statement (.mweRead) := of_row rfl (.inl rfl) rfl
theorem mweWrite : Statement (.mweWrite) := of_row rfl (.inr rfl) rfl
theorem irLoad : Statement (.irLoad) := of_row rfl (.inl rfl) rfl
theorem srMacroLatch : Statement (.srMacroLatch) := of_row rfl (.inl rfl) rfl
theorem srMicroLatch : Statement (.srMicroLatch) := of_row rfl (.inl rfl) rfl
theorem aMuxField (ra : RegIx) : Statement (.aMuxField ra) := of_row rfl (.inl rfl) rfl
theorem aMuxIr : Statement (.aMuxIr) := of_row rfl (.inl rfl) rfl
theorem bMuxField (rb : RegIx) : Statement (.bMuxField rb) := of_row rfl (.inl rfl) rfl
theorem bMuxIr : Statement (.bMuxIr) := of_row rfl (.inl rfl) rfl
theorem kMuxConst (k : Word) : Statement (.kMuxConst k) := of_row rfl (.inl rfl) rfl
theorem kMuxDbus : Statement (.kMuxDbus) := of_row rfl (.inl rfl) rfl
theorem sscuUnread (unread : BitVec 4) : Statement (.sscuUnread unread) := of_row rfl (.inl rfl)
  (congrArg (fun u => some (Instr.sscuUnread u)) (unread_sscuField {} 0 unread 0))
theorem macNoInstruction (regA : RegIx) (regB : RegIx) : Statement (.macNoInstruction regA regB) := of_macro rfl (by simp [decodeMacro])
theorem macMovRegReg (regA : RegIx) (regB : RegIx) : Statement (.macMovRegReg regA regB) := of_macro rfl (by simp [decodeMacro])
theorem macMovConstReg (regA : RegIx) (regB : RegIx) : Statement (.macMovConstReg regA regB) := of_macro rfl (by simp [decodeMacro])
theorem macMovLoad (regA : RegIx) (regB : RegIx) : Statement (.macMovLoad regA regB) := of_macro rfl (by simp [decodeMacro])
theorem macMovStore (regA : RegIx) (regB : RegIx) : Statement (.macMovStore regA regB) := of_macro rfl (by simp [decodeMacro])
theorem macAdd (regA : RegIx) (regB : RegIx) : Statement (.macAdd regA regB) := of_macro rfl (by simp [decodeMacro])
theorem macSub (regA : RegIx) (regB : RegIx) : Statement (.macSub regA regB) := of_macro rfl (by simp [decodeMacro])
theorem macCmp (regA : RegIx) (regB : RegIx) : Statement (.macCmp regA regB) := of_macro rfl (by simp [decodeMacro])
theorem macXor (regA : RegIx) (regB : RegIx) : Statement (.macXor regA regB) := of_macro rfl (by simp [decodeMacro])
theorem macTest (regA : RegIx) (regB : RegIx) : Statement (.macTest regA regB) := of_macro rfl (by simp [decodeMacro])
theorem macJmpReg (regA : RegIx) (regB : RegIx) : Statement (.macJmpReg regA regB) := of_macro rfl (by simp [decodeMacro])
theorem macJmpConst (regA : RegIx) (regB : RegIx) : Statement (.macJmpConst regA regB) := of_macro rfl (by simp [decodeMacro])
theorem macJzReg (regA : RegIx) (regB : RegIx) : Statement (.macJzReg regA regB) := of_macro rfl (by simp [decodeMacro])
theorem macJzConst (regA : RegIx) (regB : RegIx) : Statement (.macJzConst regA regB) := of_macro rfl (by simp [decodeMacro])
theorem macJlReg (regA : RegIx) (regB : RegIx) : Statement (.macJlReg regA regB) := of_macro rfl (by simp [decodeMacro])
theorem macJlConst (regA : RegIx) (regB : RegIx) : Statement (.macJlConst regA regB) := of_macro rfl (by simp [decodeMacro])
theorem macJleReg (regA : RegIx) (regB : RegIx) : Statement (.macJleReg regA regB) := of_macro rfl (by simp [decodeMacro])
theorem macJleConst (regA : RegIx) (regB : RegIx) : Statement (.macJleConst regA regB) := of_macro rfl (by simp [decodeMacro])
theorem macWtf (regA : RegIx) (regB : RegIx) : Statement (.macWtf regA regB) := of_macro rfl (by simp [decodeMacro])
theorem macUpp (regA : RegIx) (regB : RegIx) : Statement (.macUpp regA regB) := of_macro rfl (by simp [decodeMacro])
theorem macHalt : Statement (.macHalt) := of_macro rfl rfl

end Sys2Proof.Laws.RoundTrip
end

