-- ==== Sys2Proof/Tests/Slice0.lean ====
section
/-! SUPPORT. The model's own tests, on fixed values: the ill-formed terms that WellFormed refuses, words written out from
the encoding tables of 30_encoding.md (no encoder of the model writes them), the vectors of 95_test_vectors.md that one
row or one step shows, and for every statement with hypotheses a witness that meets them. The tests' values come from
95_test_vectors.md, or by hand from the rule that the comment names. -/

namespace Sys2Proof.Tests

open Sys2Proof Sys2Proof.Machine

/-! ## Helpers -/

/-- Whether an answer is a next state. -/
def isNext : Result → Bool
  | .next _ => true
  | .fault _ => false
  | .refused _ => false

/-- The next state of an answer, or `d`. -/
def stateOr (d : State) : Result → State
  | .next t => t
  | .fault _ => d
  | .refused _ => d

/-- An answer that is a next state, as an equation. -/
theorem eq_next_of_isNext {o : Result} (d : State) (h : isNext o = true) : o = .next (stateOr d o) := by
  cases o
  · rfl
  · cases h
  · cases h

/-- The state after one step. -/
def after (s : State) : State := stateOr s (step s)

/-- A machine after construction whose control store holds one word, at micro-address 0. -/
def machine (f : Fields) : State := State.reset.setStore [(0, f.toWord)]

/-- A machine after construction whose control store holds one word given by its bits, at a micro-address. -/
def machineAt (mic : Nat) (w : ControlWord) : State := (State.reset.setStore [(mic, w)]).setMic mic

/-- Whether a state and fields are those of a completed cycle. -/
def completesB (s : State) (f : Fields) : Bool :=
  decide (s.outcome = .running ∧ s.calls < s.stepLimit) && decide ((fetchWord s).map decodeWord = some (.fields f))
    && isNext (step s) && decide ((after s).outcome = .running)

theorem completes_of {s : State} {f : Fields} (h : completesB s f = true) : Completes s (after s) f := by
  simp only [completesB, Bool.and_eq_true, decide_eq_true_eq] at h
  exact ⟨⟨h.1.1.1, h.1.1.2⟩, eq_next_of_isNext s h.1.2, h.2⟩

/-- Whether a machine goes on and fetches a word with these fields. -/
def runsB (s : State) (f : Fields) : Bool :=
  decide (s.outcome = .running ∧ s.calls < s.stepLimit) && decide ((fetchWord s).map decodeWord = some (.fields f))

theorem runs_of {s : State} {f : Fields} (h : runsB s f = true) : runsFields s f := by
  simp only [runsB, Bool.and_eq_true, decide_eq_true_eq] at h
  exact ⟨h.1, h.2⟩

/-- Whether a row, run on a state, answers a next state with a property. -/
def rowGives (i : Instr) (s : State) (p : State → Bool) : Bool :=
  match exec i s with
  | .next t => p t
  | .fault _ => false
  | .refused _ => false

/-- Whether one step answers a next state with a property. -/
def stepGives (s : State) (p : State → Bool) : Bool :=
  match step s with
  | .next t => p t
  | .fault _ => false
  | .refused _ => false

/-! ## WellFormed: an ill-formed term for each check, refused -/

theorem test_ill_formed_terms_are_refused :
    ([.macMovConstReg 1 0,
      .macJmpReg 1 0,
      .macJmpConst 1 0,
      .macJmpConst 0 1,
      .macJzReg 15 3,
      .macJzConst 8 0,
      .macJzConst 0 8,
      .macJlReg 2 2,
      .macJlConst 1 1,
      .macJlConst 0 15,
      .macJleReg 4 0,
      .macJleConst 1 0,
      .macJleConst 0 2,
      .macWtf 1 0,
      .macWtf 0 1] : List Instr).all (fun i => !i.wellFormed) = true := by decide

theorem test_well_formed_terms_pass :
    ([.macMovConstReg 0 15, .macJmpReg 0 7, .macJmpConst 0 0, .macWtf 0 0, .macNoInstruction 3 4, .macAdd 15 15, .macHalt,
      .ciCjs 0xFFF true, .sscuUnread 15, .halt] : List Instr).all Instr.wellFormed = true := by decide

/-! ## Decoding: every row, from a word written out by R101, R103, R104 and R113

Each word is the row's code shifted to the field's offset by hand, with other bits set around it in some of them. -/

/-- Whether each word holds, in a family, the row it stands for. -/
def rowsRead (fam : Family) (l : List (Nat × Instr)) : Bool :=
  l.all fun p => decide (decodeRow fam (BitVec.ofNat 75 p.1) = some p.2)

/-- Whether each macro word is the row it stands for. -/
def macrosRead (l : List (Nat × Instr)) : Bool :=
  l.all fun p => decide ((decodeMacro (BitVec.ofNat 16 p.1)).toOption = some p.2)

theorem test_decode_halt :
    rowsRead .halt [
      (0x7FFFFFFFFFFFFFFFFFF, .halt)] = true := by decide

theorem test_decode_ci :
    rowsRead .ci [
      (0x0, .ciReset), (0x468180, .ciCjs 0xa06 true), (0x80000, .ciJmap), (0x4E8200, .ciCjp 0xa08 true),
      (0x128240, .ciPush 0xa09), (0x680000, .ciCrtn true), (0x2E82C0, .ciCjpp 0xa0b false), (0x380000, .ciCont),
      (0x140000, .ciInvalid0101), (0x180000, .ciInvalid0110), (0x1C0000, .ciInvalid0111), (0x200000, .ciInvalid1000),
      (0x240000, .ciInvalid1001), (0x300000, .ciInvalid1100), (0x340000, .ciInvalid1101), (0x3C0000, .ciInvalid1111)] = true := by decide

theorem test_decode_ic :
    rowsRead .ic [
      (0x0, .icNone), (0x4000000000000000044, .icAbusPc), (0x8, .icPcInc), (0x4000000000000000050, .icDbusPc),
      (0x20, .icPcDbus), (0x400000000000000004C, .icMalformed0011), (0x14, .icMalformed0101),
      (0x4000000000000000058, .icMalformed0110), (0x1C, .icMalformed0111), (0x4000000000000000064, .icMalformed1001),
      (0x28, .icMalformed1010), (0x400000000000000006C, .icMalformed1011), (0x30, .icMalformed1100),
      (0x4000000000000000074, .icMalformed1101), (0x38, .icMalformed1110), (0x400000000000000007C, .icMalformed1111)] = true := by decide

theorem test_decode_ds :
    rowsRead .ds [
      (0x0, .dsAq), (0x4000002000000000040, .dsAb), (0x4000000000000, .dsZq), (0x4000006000000000040, .dsZb),
      (0x8000000000000, .dsZa), (0x400000A000000000040, .dsDa), (0xC000000000000, .dsDq),
      (0x400000E000000000040, .dsDz)] = true := by decide

theorem test_decode_op :
    rowsRead .op [
      (0x0, .opAdd), (0x4000010000000000040, .opSubr), (0x20000000000000, .opSubs), (0x4000030000000000040, .opOr),
      (0x40000000000000, .opAnd), (0x4000050000000000040, .opNotrs), (0x60000000000000, .opExor),
      (0x4000070000000000040, .opExnor)] = true := by decide

theorem test_decode_rs :
    rowsRead .rs [
      (0x0, .rsNone), (0x4000080000000000040, .rsAcc), (0x100000000000000, .rsRegPass),
      (0x4000180000000000040, .rsReg), (0x200000000000000, .rsIllegal4), (0x4000280000000000040, .rsIllegal5),
      (0x300000000000000, .rsIllegal6), (0x4000380000000000040, .rsIllegal7)] = true := by decide

theorem test_decode_yMux :
    rowsRead .yMux [
      (0x0, .yMuxNone), (0x4000000002000000040, .yMuxAbus), (0x4000000000, .yMuxDbus),
      (0x4000000006000000040, .yMuxAbusDbus)] = true := by decide

theorem test_decode_sel :
    rowsRead .sel [
      (0x1000000000, .selMicro), (0x4000000000800000040, .selMacro), (0x0, .selNone),
      (0x4000000001800000040, .selIllegal)] = true := by decide

theorem test_decode_cop_1 :
    rowsRead .cop [
      (0x8000000, .copNz), (0x400000000000A000040, .copZ), (0x14000000, .copNc), (0x4000000000016000040, .copC),
      (0x18000000, .copNcAndNz), (0x400000000001A000040, .copCOrZ), (0x0, .copOther00),
      (0x4000000000002000040, .copOther01), (0x4000000, .copOther02), (0x4000000000006000040, .copOther03),
      (0xC000000, .copOther06), (0x400000000000E000040, .copOther07), (0x10000000, .copOther08),
      (0x4000000000012000040, .copOther09), (0x1C000000, .copOther0E), (0x400000000001E000040, .copOther0F),
      (0x20000000, .copOther10), (0x4000000000022000040, .copOther11), (0x24000000, .copOther12),
      (0x4000000000026000040, .copOther13), (0x28000000, .copOther14), (0x400000000002A000040, .copOther15),
      (0x2C000000, .copOther16), (0x400000000002E000040, .copOther17), (0x30000000, .copOther18),
      (0x4000000000032000040, .copOther19), (0x34000000, .copOther1A), (0x4000000000036000040, .copOther1B),
      (0x38000000, .copOther1C), (0x400000000003A000040, .copOther1D), (0x3C000000, .copOther1E),
      (0x400000000003E000040, .copOther1F)] = true := by decide

theorem test_decode_cop_2 :
    rowsRead .cop [
      (0x40000000, .copOther20), (0x4000000000042000040, .copOther21), (0x44000000, .copOther22),
      (0x4000000000046000040, .copOther23), (0x48000000, .copOther24), (0x400000000004A000040, .copOther25),
      (0x4C000000, .copOther26), (0x400000000004E000040, .copOther27), (0x50000000, .copOther28),
      (0x4000000000052000040, .copOther29), (0x54000000, .copOther2A), (0x4000000000056000040, .copOther2B),
      (0x58000000, .copOther2C), (0x400000000005A000040, .copOther2D), (0x5C000000, .copOther2E),
      (0x400000000005E000040, .copOther2F), (0x60000000, .copOther30), (0x4000000000062000040, .copOther31),
      (0x64000000, .copOther32), (0x4000000000066000040, .copOther33), (0x68000000, .copOther34),
      (0x400000000006A000040, .copOther35), (0x6C000000, .copOther36), (0x400000000006E000040, .copOther37),
      (0x70000000, .copOther38), (0x4000000000072000040, .copOther39), (0x74000000, .copOther3A),
      (0x4000000000076000040, .copOther3B), (0x78000000, .copOther3C), (0x400000000007A000040, .copOther3D),
      (0x7C000000, .copOther3E), (0x400000000007E000040, .copOther3F)] = true := by decide

theorem test_decode_mwe :
    rowsRead .mwe [
      (0x0, .mweRead), (0x1, .mweWrite)] = true := by decide

theorem test_decode_ir :
    rowsRead .ir [
      (0x2, .irLoad)] = true := by decide

theorem test_decode_srMacro :
    rowsRead .srMacro [
      (0x800000, .srMacroLatch)] = true := by decide

theorem test_decode_srMicro :
    rowsRead .srMicro [
      (0x1000000, .srMicroLatch)] = true := by decide

theorem test_decode_aMux :
    rowsRead .aMux [
      (0x1300000000000, .aMuxField 9), (0xA00000000000, .aMuxIr)] = true := by decide

theorem test_decode_bMux :
    rowsRead .bMux [
      (0x68000000000, .bMuxField 6), (0x50000000000, .bMuxIr)] = true := by decide

theorem test_decode_kMux :
    rowsRead .kMux [
      (0x6FB8000000000000000, .kMuxConst 0xbee0), (0x1C00000000000000, .kMuxDbus)] = true := by decide

theorem test_decode_unread :
    rowsRead .unread [
      (0x580000000, .sscuUnread 11)] = true := by decide

theorem test_decode_macro_words :
    macrosRead [
      (0x0032, .macNoInstruction 3 2), (0x01A7, .macMovRegReg 10 7), (0x021C, .macMovConstReg 1 12),
      (0x0381, .macMovLoad 8 1), (0x04F6, .macMovStore 15 6), (0x056B, .macAdd 6 11), (0x06D0, .macSub 13 0),
      (0x0745, .macCmp 4 5), (0x08BA, .macXor 11 10), (0x092F, .macTest 2 15), (0x0A94, .macJmpReg 9 4),
      (0x0B09, .macJmpConst 0 9), (0x0C7E, .macJzReg 7 14), (0x0DE3, .macJzConst 14 3), (0x0E58, .macJlReg 5 8),
      (0x0FCD, .macJlConst 12 13), (0x1032, .macJleReg 3 2), (0x11A7, .macJleConst 10 7), (0x121C, .macWtf 1 12),
      (0x1381, .macUpp 8 1), (0xFF00, .macHalt)] = true := by decide

/-- R391: no macro word outside the table, and not the halt word with a register field set. -/
theorem test_unlisted_macro_words_are_refused :
    ([0x1400, 0x8012, 0xFE00, 0xFF01, 0xFF10] : List Word).all (fun w => (decodeMacro w).toOption.isNone) = true := by decide

/-- The halt sentinel holds no field's row (R110). -/
theorem test_halt_has_no_field_rows :
    ([.ci, .ic, .ds, .op, .rs, .yMux, .sel, .cop, .mwe, .ir, .aMux, .bMux, .kMux, .unread] : List Family).all
      (fun fam => (decodeRow fam 0x7FFFFFFFFFFFFFFFFFF#75).isNone) = true := by decide

/-- Vector D3. -/
theorem test_D3 : decodeWord 0x7FFFFFFFFFFFFFFFFFE#75 = .fields
    { mwe := false, ir := true, ic := 0xF, bar := 0xFFF, ci := 0xF, ccen := true, srMacro := true, srMicro := true,
      sscu := 0xFFF, yMux := 3, bMux := true, rbAddr := 0xF, aMux := true, raAddr := 0xF, alu := 0x1FF,
      constant := 0xFFFF, kMux := true } := by decide

/-- Vector D4. -/
theorem test_D4 : decodeWord 0x2AAAAAAAAAAAAAAAAAA#75 = .fields
    { mwe := false, ir := true, ic := 0xA, bar := 0xAAA, ci := 0xA, ccen := false, srMacro := true, srMicro := false,
      sscu := 0x555, yMux := 1, bMux := true, rbAddr := 0xA, aMux := false, raAddr := 5, alu := 0x155,
      constant := 0xAAAA, kMux := false } := by decide

/-- Vectors D5 and D6. -/
theorem test_D5_D6 : decodeNat 0 = .ok (.fields {}) ∧ decodeNat (2 ^ 75) = .error .outOfRange := by
  constructor <;> rfl

/-- The words of the vectors S12, S13, S14, Q1, E5 and E7 are the words that R115's notation writes. -/
theorem test_notation_words :
    Fields.toWord { bar := 0x40, ci := 3, ccen := true, srMicro := true, sscu := 0x805, alu := 0x1F, kMux := true }
      = 0x400003E00100B4C1000#75 ∧
    Fields.toWord { alu := aluField 1 0 3, aMux := true, raAddr := 1, bMux := true, rbAddr := 2, ci := 14 }
      = 0x0000182328000380000#75 ∧
    Fields.toWord { alu := aluField 7 7 0, srMacro := true, srMicro := true, ci := 14 } = 0x000007E000001B80000#75 ∧
    Fields.toWord { alu := aluField 7 3 1, kMux := true, constant := 9 } = 0x40024BE000000000000#75 ∧
    Fields.toWord { ic := 8, alu := aluField 7 3 0, kMux := true, constant := 0x1234, yMux := 2, ci := 14 }
      = 0x448D03E004000380020#75 ∧
    Fields.toWord { mwe := true, alu := aluField 7 3 0, kMux := true, constant := 0x77, yMux := 3, ci := 14 }
      = 0x401DC3E006000380001#75 := by decide

/-- A literal follows the five forms of R392, and a program that ends before it is refused. -/
theorem test_macro_words :
    (decodeMacroWords [0x0200, 0x0005, 0x1200]).toOption = some (some (.macMovConstReg 0 0, some 5, [0x1200])) ∧
      (decodeMacroWords [0x0200]).toOption = none := by decide

/-! ## One row at a time: the vectors of section L2.2 to L2.4 -/

/-- A state with the function inputs and the carry-in given. -/
def aluInputs (r s : Word) (cin : Bool) : State :=
  (State.reset.setUS (if cin then 0b0100 else 0)).setSig { Signals.rest with r := r, s := s }

/-- Whether an ALU function gives the result and the flags of each vector `(R, S, cin, F, OVR C N Z)`. -/
def aluGives (i : Instr) (l : List (Word × Word × Bool × Word × Status)) : Bool :=
  l.all fun (r, s, cin, f, flags) => rowGives i (aluInputs r s cin) fun t => decide (t.sig.f = f ∧ t.sig.flags = flags)

/-- Vectors A1 to A5. -/
theorem test_opAdd :
    aluGives .opAdd [
      (0xFFFF, 1, false, 0, 0b1101), (0xFFFF, 0xFFFF, true, 0xFFFF, 0b1100), (2, 3, true, 6, 0), (0, 0, false, 0, 1),
      (0x8000, 0x8000, false, 0, 0b1101)] = true := by decide

/-- Vectors A6 to A9. -/
theorem test_opSubr :
    aluGives .opSubr [
      (5, 3, false, 0xFFFE, 0b1110), (3, 5, true, 1, 0), (0xFFFF, 0, true, 0, 0b1111), (0, 0, true, 0xFFFF, 0b1110)] = true := by decide

/-- Vectors A10 to A13. -/
theorem test_opSubs :
    aluGives .opSubs [
      (5, 3, true, 1, 0), (3, 3, false, 0, 1), (0, 0xFFFF, true, 0, 0b1111), (3, 5, false, 0xFFFE, 0b1110)] = true := by decide

/-- Vectors A14 to A15. -/
theorem test_opOr :
    aluGives .opOr [
      (0xF0, 0xF00, true, 0xFF0, 0), (0, 0, false, 0, 1)] = true := by decide

/-- Vectors A16 to A17. -/
theorem test_opAnd :
    aluGives .opAnd [
      (0xF0, 0xF00, false, 0, 1), (0xFFFF, 0x1234, true, 0x1234, 0)] = true := by decide

/-- Vectors A18 to A20. -/
theorem test_opNotrs :
    aluGives .opNotrs [
      (0xFF, 0xF0F, false, 0xF00, 0), (0xFFFF, 0xFFFF, false, 0, 1), (0, 0xABCD, false, 0xABCD, 0)] = true := by decide

/-- Vectors A21 to A22. -/
theorem test_opExor :
    aluGives .opExor [
      (0xAAAA, 0x5555, false, 0xFFFF, 0), (0x1234, 0x1234, true, 0, 1)] = true := by decide

/-- Vectors A23 to A26. -/
theorem test_opExnor :
    aluGives .opExnor [
      (0x1234, 0x1234, false, 0xFFFF, 0b1110), (0, 0xFFFF, false, 0, 0b1111), (0xFF, 0xF0F, false, 0xF00F, 0b1110),
      (0, 0, true, 0xFFFF, 0b1110)] = true := by decide

/-- `x1` = 0x11, `x2` = 0x22, `acc` = 0x33, `d` = 0x44, operand indices 1 and 2. -/
def sources : State :=
  (((State.reset.setReg 1 0x11).setReg 2 0x22).setAcc 0x33).setSig { Signals.rest with ia := 1, ib := 2, d := 0x44 }

/-- Vectors A27 to A32c. -/
theorem test_sources :
    ([(.dsAq, 0x11, 0x33), (.dsAb, 0x11, 0x22), (.dsZq, 0, 0x33), (.dsZb, 0, 0x22), (.dsZa, 0, 0x11), (.dsDa, 0x44, 0x11),
      (.dsDq, 0x44, 0x33), (.dsDz, 0x44, 0)] : List (Instr × Word × Word)).all
      (fun p => rowGives p.1 sources fun t => decide (t.sig.r = p.2.1 ∧ t.sig.s = p.2.2)) = true := by decide

/-- `sources` with F = 0x33. -/
def computed : State := sources.setSig { sources.sig with f := 0x33 }

/-- Vectors A33, A35, A36 and A37: `y`, `x1`, `x2` and the accumulator. -/
theorem test_destinations :
    ([(.rsRegPass, 0x11, 0x33, 0x33), (.rsNone, 0x33, 0x22, 0x33), (.rsAcc, 0x33, 0x22, 0x33), (.rsReg, 0x33, 0x33, 0x33)] :
      List (Instr × Word × Word × Word)).all
      (fun p => rowGives p.1 computed fun t =>
        decide (t.sig.y = p.2.1 ∧ t.reg 2 = p.2.2.1 ∧ t.acc = p.2.2.2 ∧ t.reg 1 = 0x11)) = true := by decide

/-- Vector A36 with another F than the accumulator holds (R201). -/
theorem test_accumulator_destination :
    rowGives .rsAcc (sources.setSig { sources.sig with f := 0x99 }) (fun t => decide (t.acc = 0x99 ∧ t.reg 2 = 0x22)) = true := by
  decide

/-- Vector A39: the four illegal destinations fault and write nothing. -/
theorem test_illegal_destinations :
    ([.rsIllegal4, .rsIllegal5, .rsIllegal6, .rsIllegal7] : List Instr).all
      (fun i => rowGives i computed fun t =>
        decide (t.outcome = .faulted .illegalResultSelect ∧ t.regs = sources.regs ∧ t.acc = 0x33)) = true := by decide

/-- R329 and R330: `IR` = 0x12A7 gives the indices 10 and 7, the fields their own, `DBUS` or the constant the D input. -/
theorem test_operand_muxes :
    rowGives .aMuxIr (State.reset.setIr 0x12A7) (fun t => decide (t.sig.ia = 10)) = true ∧
    rowGives .bMuxIr (State.reset.setIr 0x12A7) (fun t => decide (t.sig.ib = 7)) = true ∧
    rowGives (.aMuxField 3) (State.reset.setIr 0x12A7) (fun t => decide (t.sig.ia = 3)) = true ∧
    rowGives (.bMuxField 12) (State.reset.setIr 0x12A7) (fun t => decide (t.sig.ib = 12)) = true ∧
    rowGives (.kMuxConst 0x77) (State.reset.setDbus 0x88) (fun t => decide (t.sig.d = 0x77)) = true ∧
    rowGives .kMuxDbus (State.reset.setDbus 0x88) (fun t => decide (t.sig.d = 0x88)) = true := by decide

/-- R324 to R328: the five legal IC actions on `PC` = 0xFFFF, `DBUS` = 6. -/
theorem test_ic_actions :
    let s := (State.reset.setPc 0xFFFF).setDbus 6
    rowGives .icNone s (fun t => decide (t = s)) = true ∧
    rowGives .icAbusPc s (fun t => decide (t.abus = 0xFFFF ∧ t.pc = 0xFFFF)) = true ∧
    rowGives .icPcInc s (fun t => decide (t.pc = 0)) = true ∧
    rowGives .icDbusPc s (fun t => decide (t.dbus = 0xFFFF)) = true ∧
    rowGives .icPcDbus s (fun t => decide (t.pc = 6 ∧ t.dbus = 6)) = true := by decide

/-- R332 and R334: the routings of `y` = 0x55, and the IR load. -/
theorem test_routing :
    let s := (State.reset.setDbus 6).setSig { Signals.rest with y := 0x55 }
    rowGives .yMuxNone s (fun t => decide (t.abus = 0 ∧ t.dbus = 6)) = true ∧
    rowGives .yMuxAbus s (fun t => decide (t.abus = 0x55 ∧ t.dbus = 6)) = true ∧
    rowGives .yMuxDbus s (fun t => decide (t.abus = 0 ∧ t.dbus = 0x55)) = true ∧
    rowGives .yMuxAbusDbus s (fun t => decide (t.abus = 0x55 ∧ t.dbus = 0x55)) = true ∧
    rowGives .irLoad s (fun t => decide (t.ir = 6)) = true := by decide

/-- A state with a condition source. -/
def source (w : Option Status) : State := State.reset.setSig { Signals.rest with src := w }

/-- Vectors S2, S4 to S11, and the other arm of each of the six tests. -/
theorem test_conditions :
    ([(.copZ, some 0b0001, true), (.copC, some 0b1100, true), (.copZ, none, false), (.copNz, some 0, true),
      (.copNc, some 0b0100, false), (.copNcAndNz, some 0b0010, true), (.copCOrZ, some 0b1010, false),
      (.copOther06, some 0b1111, false), (.copOther3F, some 0b1111, false), (.copZ, some 0b1110, false),
      (.copC, some 0b1011, false), (.copNz, some 0b0001, false), (.copNc, some 0b1011, true),
      (.copNcAndNz, some 0b0001, false), (.copNcAndNz, some 0b0100, false), (.copCOrZ, some 0b0001, true),
      (.copCOrZ, some 0b0100, true), (.copNz, none, false), (.copOther00, some 0b1111, false)] :
      List (Instr × Option Status × Bool)).all
      (fun p => rowGives p.1 (source p.2.1) fun t => decide (t.sig.cbit = p.2.2)) = true := by decide

/-- R243 to R245 and vector S3. -/
theorem test_selects :
    let s := (State.reset.setUS 0b0001).setMS 0b1100
    rowGives .selMicro s (fun t => decide (t.sig.src = some 0b0001)) = true ∧
    rowGives .selMacro s (fun t => decide (t.sig.src = some 0b1100)) = true ∧
    rowGives .selNone s (fun t => decide (t.sig.src = none)) = true ∧
    rowGives .selIllegal s (fun t => decide (t.outcome = .faulted .illegalStatusSelect ∧ t.uS = 0b0001)) = true := by decide

/-- R254 and R255: each latch writes its own register. -/
theorem test_latches :
    let s := State.reset.setSig { Signals.rest with flags := 0b1110 }
    rowGives .srMacroLatch s (fun t => decide (t.mS = 0b1110 ∧ t.uS = 0)) = true ∧
    rowGives .srMicroLatch s (fun t => decide (t.uS = 0b1110 ∧ t.mS = 0)) = true := by decide

/-- R336, R371: an opcode in the table, opcode 0, and vector F5's opcode, which is not in the table. -/
theorem test_macro_rows :
    let s := State.reset.setProm [(0x02, 0x010), (0x13, 0xFFF)]
    rowGives (.macMovConstReg 0 5) s (fun t => decide (t.ir = 0x0205 ∧ t.sig.mapped = 0x010)) = true ∧
    rowGives (.macUpp 1 2) s (fun t => decide (t.ir = 0x1312 ∧ t.sig.mapped = 0xFFF)) = true ∧
    rowGives (.macNoInstruction 1 2) s (fun t => decide (t.ir = 0x0012 ∧ t.sig.mapped = 0)) = true ∧
    rowGives (.macWtf 0 0) s (fun t => decide (t.ir = 0x1200 ∧ t.outcome = .faulted .unmappedMacroOpcode)) = true ∧
    rowGives .macHalt s (fun t => decide (t.ir = 0xFF00 ∧ t.outcome = .faulted .unmappedMacroOpcode)) = true := by decide

/-- R286, R442: RESET. -/
theorem test_reset_row :
    rowGives .ciReset (((State.reset.setStack [5, 6]).setMic 0x123).setPc 7) (fun t =>
      decide (t.mic = 0 ∧ t.stack = [] ∧ t.pc = 7)) = true := by decide

/-- R338: the memory stage, writing 0xABCD at 0x10, a 0 over it (R70: the canonical form lists no 0), and reading. -/
theorem test_memory_stage :
    rowGives .mweWrite ((State.reset.setAbus 0x10).setDbus 0xABCD) (fun t => decide (t.mem = [(0x10, 0xABCD)])) = true ∧
    rowGives .mweWrite ((State.reset.setMem [(0x10, 0xABCD)]).setAbus 0x10) (fun t => decide (t.mem = [])) = true ∧
    rowGives .mweRead ((State.reset.setMem [(0x10, 0xABCD)]).setAbus 0x10) (fun t => decide (t.dbus = 0xABCD)) = true ∧
    rowGives .mweRead ((State.reset.setAbus 0x4000).setDbus 9) (fun t => decide (t.dbus = 0)) = true := by decide

/-! ## One step at a time: the vectors of sections L2.3 to L2.6 -/

/-- Vector S12: the condition reads the old status. -/
theorem test_S12 : stepGives (machineAt 2 0x400003E00100B4C1000#75) (fun t => decide (t.mic = 3 ∧ t.uS = 0b0001)) = true := by
  decide

/-- Vector S13: the carry-in adds, and the micro status stays. -/
theorem test_S13 :
    stepGives ((((machineAt 0 0x0000182328000380000#75).setUS 0b0100).setReg 1 5).setReg 2 6)
      (fun t => decide (t.reg 2 = 0xC ∧ t.uS = 0b0100)) = true := by decide

/-- Vector S14: EXNOR's flags in both status registers. -/
theorem test_S14 :
    stepGives (machineAt 0 0x000007E000001B80000#75) (fun t => decide (t.uS = 0b1110 ∧ t.mS = 0b1110)) = true := by decide

/-- Vector Q1. -/
theorem test_Q1 :
    stepGives (((machineAt 0x123 0x40024BE000000000000#75).setStack [5, 6]).setPc 7)
      (fun t => decide (t.mic = 0 ∧ t.stack = [] ∧ t.acc = 9 ∧ t.pc = 7)) = true := by decide

/-- Vectors Q2 to Q5: CJS taken, not taken, with a full stack, and not taken with a full stack. -/
theorem test_Q2_to_Q5 :
    stepGives (machineAt 0 0x40400#75) (fun t => decide (t.mic = 0x010 ∧ t.stack = [1])) = true ∧
    stepGives (machineAt 0 0x100A440400#75) (fun t => decide (t.mic = 1 ∧ t.stack = [])) = true ∧
    stepGives ((machineAt 3 0x40400#75).setStack [1, 2, 3, 4, 5])
      (fun t => decide (t.outcome = .faulted .stackOverflow ∧ t.mic = 3 ∧ t.stack = [1, 2, 3, 4, 5] ∧ t.cycles = 0)) = true ∧
    stepGives ((machineAt 3 0x440400#75).setStack [1, 2, 3, 4, 5])
      (fun t => decide (t.outcome = .running ∧ t.mic = 4)) = true := by decide

/-- Vectors Q6 and Q7: JMAP, alone and in the cycle that loads `IR`. -/
theorem test_Q6_Q7 :
    stepGives (machineAt 7 0x80000#75) (fun t => decide (t.mic = 0 ∧ t.outcome = .running)) = true ∧
    stepGives (((machineAt 0 0x80002#75).setDbus 0x0200).setProm [(0x02, 0x010)])
      (fun t => decide (t.ir = 0x0200 ∧ t.mic = 0x010)) = true := by decide

/-- Vectors Q8 to Q10: CJP. -/
theorem test_Q8_to_Q10 :
    stepGives ((machineAt 2 0x100A4C1000#75).setUS 0b0001) (fun t => decide (t.mic = 0x040)) = true ∧
    stepGives (machineAt 2 0x100A4C1000#75) (fun t => decide (t.mic = 3)) = true ∧
    stepGives ((machineAt 2 0x8164C1000#75).setMS 0b1100) (fun t => decide (t.mic = 0x040)) = true := by decide

/-- Vector Q11: PUSH. -/
theorem test_Q11 :
    stepGives ((machineAt 3 0x1040C0#75).setStack [0x100, 0x101, 0x102])
      (fun t => decide (t.mic = 4 ∧ t.stack = [0x100, 0x101, 0x102, 0x103])) = true := by decide

/-- Vectors Q12 to Q14: CRTN. -/
theorem test_Q12_to_Q14 :
    stepGives ((machineAt 9 0x280000#75).setStack [1]) (fun t => decide (t.mic = 1 ∧ t.stack = [])) = true ∧
    stepGives (machineAt 9 0x280000#75) (fun t => decide (t.outcome = .faulted .stackUnderflow ∧ t.mic = 9)) = true ∧
    stepGives (machineAt 9 0x680000#75) (fun t => decide (t.mic = 0x00A ∧ t.outcome = .running)) = true := by decide

/-- Vectors Q15 and Q16: CJPP. -/
theorem test_Q15_Q16 :
    stepGives ((machineAt 9 0x2C1000#75).setStack [7, 9]) (fun t => decide (t.mic = 0x040 ∧ t.stack = [7])) = true ∧
    stepGives (machineAt 9 0x2C1000#75) (fun t => decide (t.outcome = .faulted .stackUnderflow)) = true := by decide

/-- Vector Q17: CONT at 4095, and the fetch at 4096. -/
theorem test_Q17 :
    stepGives (machineAt 4095 0x380000#75) (fun t => decide (t.mic = 4096 ∧ t.outcome = .running)) = true ∧
    stepGives ((machineAt 4095 0x380000#75).setMic 4096)
      (fun t => decide (t.outcome = .faulted .unmappedMicroAddress ∧ t.mic = 4096)) = true := by decide

/-- Vector Q18: the eight invalid controller instructions. -/
theorem test_Q18 :
    ([5, 6, 7, 8, 9, 12, 13, 15] : List Nat).all (fun ci => stepGives (machineAt 0 (BitVec.ofNat 75 (ci * 0x40000)))
      (fun t => decide (t.outcome = .faulted .invalidControllerInstruction ∧ t.mic = 0))) = true := by decide

/-- Vectors E1 to E4: the IC actions in a whole cycle. -/
theorem test_E1_to_E4 :
    stepGives (((machineAt 0 0x380004#75).setPc 2).setMem [(2, 0xBEEF)])
      (fun t => decide (t.abus = 2 ∧ t.dbus = 0xBEEF ∧ t.mic = 1)) = true ∧
    stepGives ((machineAt 0 0x380008#75).setPc 0xFFFF) (fun t => decide (t.pc = 0)) = true ∧
    stepGives ((machineAt 0 0x1BE0F8000380010#75).setPc 8) (fun t => decide (t.reg 15 = 8 ∧ t.dbus = 0)) = true ∧
    stepGives ((machineAt 0 0x380020#75).setDbus 6) (fun t => decide (t.pc = 6 ∧ t.dbus = 0)) = true := by decide

/-- Vectors E5 and E6: the routing before the deferred PC load, and over the IC write of the address bus. -/
theorem test_E5_E6 :
    stepGives ((machineAt 0 0x448D03E004000380020#75).setDbus 6) (fun t => decide (t.pc = 0x1234 ∧ t.dbus = 0)) = true ∧
    stepGives (((machineAt 0 0x404003E002000380004#75).setPc 5).setMem [(5, 0x99), (0x100, 0x42)])
      (fun t => decide (t.abus = 0x100 ∧ t.dbus = 0x42)) = true := by decide

/-- Vectors E7 to E9: the memory stage. -/
theorem test_E7_to_E9 :
    stepGives (machineAt 0 0x401DC3E006000380001#75)
      (fun t => decide (t.abus = 0x77 ∧ t.dbus = 0x77 ∧ t.mem = [(0x77, 0x77)])) = true ∧
    stepGives ((machineAt 0 0x380000#75).setAbus 0x4000) (fun t => decide (t.dbus = 0 ∧ t.cycles = 1)) = true ∧
    stepGives (((machineAt 0 0x380001#75).setAbus 0x10).setDbus 0xABCD)
      (fun t => decide (t.mem = [(0x10, 0xABCD)] ∧ t.dbus = 0xABCD)) = true := by decide

/-- Vectors E10 to E12: a malformed IC value, the halt sentinel, and a micro-address without an entry. -/
theorem test_E10_to_E12 :
    stepGives (machineAt 0 0x38000C#75) (fun t => decide (t.outcome = .faulted .malformedIcField ∧ t.cycles = 0)) = true ∧
    stepGives (machineAt 0x3F 0x7FFFFFFFFFFFFFFFFFF#75)
      (fun t => decide (t.outcome = .halted ∧ t.mic = 0x3F ∧ t.cycles = 0)) = true ∧
    stepGives (State.reset.setMic 5) (fun t => decide (t.outcome = .faulted .unmappedMicroAddress ∧ t.mic = 5)) = true := by
  decide

/-- Vectors F1 to F5: the fault of the first faulting step. -/
theorem test_F1_to_F5 :
    stepGives (machineAt 0 0x20000180014000C#75) (fun t => decide (t.outcome = .faulted .malformedIcField)) = true ∧
    stepGives (machineAt 0 0x200001800140000#75) (fun t => decide (t.outcome = .faulted .illegalResultSelect)) = true ∧
    stepGives (machineAt 0 0x1801140000#75) (fun t => decide (t.outcome = .faulted .illegalStatusSelect ∧ t.uS = 0)) = true ∧
    stepGives ((machineAt 0 0x140000#75).setIr 0x1300) (fun t => decide (t.outcome = .faulted .unmappedMacroOpcode)) = true ∧
    stepGives ((machineAt 0 0x80002#75).setDbus 0x1300)
      (fun t => decide (t.outcome = .faulted .unmappedMacroOpcode ∧ t.ir = 0x1300 ∧ t.mic = 0)) = true := by decide

/-- R456: the call at the ceiling is not made. -/
theorem test_ceiling :
    stepGives ((machineAt 0 0x380000#75).setStepLimit 0) (fun t => decide (t.outcome = .stepLimitExceeded ∧ t.mic = 0)) = true ∧
    stepGives ((machineAt 0 0x7FFFFFFFFFFFFFFFFFF#75).setStepLimit 1) (fun t => decide (t.outcome = .halted)) = true := by
  decide

/-- A placed word runs as the first instruction after reset: a control word, and a macro word. -/
theorem test_placed_words :
    stepGives (State.reset.withFetchWord 24 0x40400) (fun t => decide (t.mic = 0x010 ∧ t.stack = [1])) = true ∧
    stepGives (State.reset.withFetchWord 16 0x0512) (fun t => decide (t.ir = 0x0512 ∧ t.outcome = .running)) = true := by decide

/-- Table words read back, one of each family. -/
theorem test_table_words :
    decodeTableWord 80 0x7FFFFFFFFFFFFFFFFFF = some .halt ∧ decodeTableWord 24 0x40000 = some (.ciCjs 0 false) ∧
      decodeTableWord 8 0x04 = some .icAbusPc ∧ decodeTableWord 56 0x2000000000000 = some .dsAb ∧
      decodeTableWord 56 0x10000000000000 = some .opSubr ∧ decodeTableWord 64 0x80000000000000 = some .rsAcc ∧
      decodeTableWord 40 0x2000000000 = some .yMuxAbus ∧ decodeTableWord 40 0x1000000000 = some .selMicro ∧
      decodeTableWord 32 0x08000000 = some .copNz ∧ decodeTableWord 8 1 = some .mweWrite ∧
      decodeTableWord 8 2 = some .irLoad ∧ decodeTableWord 16 0x0500 = some (.macAdd 0 0) ∧
      decodeTableWord 16 0xFF01 = none := by decide

/-! ## Witnesses: concrete states and operands that meet the hypotheses of each statement together -/

/-- R115: `{ci=CONT}` with some fields more. -/
def cont : Fields := { ci := 14 }

/-- O1. -/
theorem witness_DecodeEncodeAgree :
    WellFormed (.ciCjs 0xFFF true) ∧ WellFormed .macHalt ∧ WellFormed (.macMovConstReg 0 15) := by decide

/-- O3. -/
theorem witness_DecodingIsInjective :
    decodeWord 0x380000#75 = decodeWord (Fields.toWord cont) ∧ (0x7FFFFFFFFFFFFFFFFFE#75).toNat ≠ 2 ^ 75 - 1 := by decide

/-- O5: a word one too large, and the largest word. -/
theorem witness_OversizedWordIsRefused :
    (∃ e ∈ ([(0, 2 ^ 75)] : List (MicroAddr × Nat)), 2 ^ 75 ≤ e.2) ∧
      (∀ e ∈ ([(0, 2 ^ 75 - 1)] : List (MicroAddr × Nat)), e.2 < 2 ^ 75) := by decide

/-- O6: a form with a literal and a form without. -/
theorem witness_MacroProgramReadsBack :
    (encode (.macMovConstReg 0 2) = .macroWord 0x0202 ∧ (some (5 : Word)).isSome = (Instr.macMovConstReg 0 2).hasLiteral) ∧
      (encode (.macAdd 1 2) = .macroWord 0x0512 ∧ (none : Option Word).isSome = (Instr.macAdd 1 2).hasLiteral) := by
  decide

/-- O7: `mov 5 r0; wtf` (L1.5), with its last word's index, and the longest program. -/
theorem witness_ProgramImageReadsBack :
    (([0x0200, 0x0005, 0x1200] : List Word).length < 65536 ∧ 2 < ([0x0200, 0x0005, 0x1200] : List Word).length) ∧
      (List.replicate 65535 (0 : Word)).length < 65536 := by
  refine ⟨by decide, ?_⟩
  rw [List.length_replicate]
  decide

/-- O8: a machine that fetches the sentinel, one that fetches fields, a row that answers a next state, and a macro word in
`IR`. -/
theorem witness_StepRunsTheDecodedInstruction :
    (goesOn (machineAt 5 0x7FFFFFFFFFFFFFFFFFF#75) ∧
      fetchWord (machineAt 5 0x7FFFFFFFFFFFFFFFFFF#75) = some 0x7FFFFFFFFFFFFFFFFFF#75 ∧
        decodeWord 0x7FFFFFFFFFFFFFFFFFF#75 = .halt) ∧
      (goesOn (machine cont) ∧ fetchWord (machine cont) = some 0x380000#75 ∧ decodeWord 0x380000#75 = .fields cont) ∧
      exec .ciCont State.reset = .next (State.reset.setMic 1) ∧
      decodeMacro (State.reset.setIr 0x0512).ir = .ok (.macAdd 1 2) := by
  refine ⟨⟨⟨rfl, by decide⟩, by decide, by decide⟩, ⟨⟨rfl, by decide⟩, by decide, by decide⟩, rfl, rfl⟩

/-- O9. -/
theorem witness_CycleRefinesThePseudocode : (machine cont).outcome = .running := rfl

/-- Vector E7's word and machine. -/
def storing : Fields := { mwe := true, alu := aluField 7 3 0, kMux := true, constant := 0x77, yMux := 3, ci := 14 }

/-- O10: vector E7's step, which writes memory. -/
theorem witness_StepKeepsTheInvariant : StateOk (machine storing) ∧ step (machine storing) = .next (after (machine storing)) :=
  ⟨⟨⟨by decide, by decide, by decide⟩, ⟨by decide, by decide⟩, by decide, by decide, ⟨by decide, rfl⟩⟩,
    eq_next_of_isNext _ (by decide)⟩

/-- O13. -/
theorem witness_ConfigurationIsReadOnly : step (machine storing) = .next (after (machine storing)) :=
  eq_next_of_isNext _ (by decide)

/-- O14: each end of a run. -/
theorem witness_EndedRunIsFinal :
    (State.reset.setOutcome .halted).outcome = .halted ∧
      (State.reset.setOutcome .stepLimitExceeded).outcome = .stepLimitExceeded ∧
        (State.reset.setOutcome (.faulted .stackOverflow)).outcome = .faulted .stackOverflow := by decide

/-- O15: a running machine whose run ends at the ceiling (vector T1: no call is allowed). -/
theorem witness_RunAlwaysEnds :
    (State.reset.setStepLimit 0).outcome = .running ∧ (run (State.reset.setStepLimit 0)).outcome = .stepLimitExceeded := by
  decide

/-- CJS with the stack one below its bound, and a mapped opcode in `IR`. -/
def calling : Fields := { ci := 1, bar := 0xFFF, alu := aluField 7 7 3, ic := 8, sscu := sscuField 0x3F 0xF 2 }

/-- The state of `calling`. -/
def callingState : State := (((machine calling).setStack [1, 2, 3, 4]).setIr 0x0512).setProm [(5, 0xFFF)]

theorem not_mapped_of {f : Fields} {s : State} (h : (Reference.irAfter f s).extractLsb' 8 8 ≠ 0)
    (k : s.prom.read ((Reference.irAfter f s).extractLsb' 8 8) = none) : ¬ Reference.opcodeIsMapped f s := by
  rintro (h' | ⟨a, h'⟩)
  · exact h h'
  · rw [k] at h'
    cases h'

theorem reaches_of {f : Fields}
    (h : (decide (f.ic.toNat ∈ [0, 1, 2, 4, 8]) && decide (f.rs.toNat < 4) && decide (f.sel.toNat ≠ 3)) = true) :
    Reference.reachesMapping f := by
  simp only [Bool.and_eq_true, decide_eq_true_eq] at h
  exact ⟨h.1.1, h.1.2, h.2⟩

/-- Vector Q5's fields: CJS on the sequential path. -/
def notCalling : Fields := { bar := 0x010, ci := 1, ccen := true }

/-- O16: a call at length 4 with a mapped opcode; vector Q5 with five entries; vector Q14 with none; a pop of one entry; a
push at length 4; and a cycle that loads the opcode it maps (vector Q7). -/
theorem witness_LegalCycleCompletes :
    (runsFields callingState calling ∧ Reference.reachesMapping calling ∧ calling.ci.toNat ∈ [0, 1, 2, 3, 4, 10, 11, 14] ∧
      Reference.opcodeIsMapped calling callingState ∧ Reference.condOf calling callingState = false ∧
      callingState.stack.length < 5) ∧
    (runsFields ((machine notCalling).setStack [1, 2, 3, 4, 5]) notCalling ∧ Reference.reachesMapping notCalling ∧
      Reference.opcodeIsMapped notCalling ((machine notCalling).setStack [1, 2, 3, 4, 5]) ∧
      Reference.condOf notCalling ((machine notCalling).setStack [1, 2, 3, 4, 5]) = true) ∧
    (runsFields (machine { ci := 10, ccen := true }) { ci := 10, ccen := true } ∧
      Reference.condOf { ci := 10, ccen := true } (machine { ci := 10, ccen := true }) = true) ∧
    (runsFields ((machine { ci := 11 }).setStack [7]) { ci := 11 } ∧
      Reference.condOf { ci := 11 } ((machine { ci := 11 }).setStack [7]) = false ∧
      ((machine { ci := 11 }).setStack [7]).stack ≠ []) ∧
    (runsFields ((machine { ci := 4 }).setStack [1, 2, 3, 4]) { ci := 4 } ∧
      ((machine { ci := 4 }).setStack [1, 2, 3, 4]).stack.length < 5) ∧
    (runsFields (((machine { ir := true, ci := 2 }).setDbus 0x0200).setProm [(2, 0x010)]) { ir := true, ci := 2 } ∧
      Reference.reachesMapping { ir := true, ci := 2 } ∧
      Reference.opcodeIsMapped { ir := true, ci := 2 }
        (((machine { ir := true, ci := 2 }).setDbus 0x0200).setProm [(2, 0x010)])) :=
  ⟨⟨runs_of (by decide), reaches_of (by decide), by decide, .inr ⟨0xFFF, by decide⟩, by decide, by decide⟩,
    ⟨runs_of (by decide), reaches_of (by decide), .inl (by decide), by decide⟩,
    ⟨runs_of (by decide), by decide⟩, ⟨runs_of (by decide), by decide, by decide⟩, ⟨runs_of (by decide), by decide⟩,
    runs_of (by decide), reaches_of (by decide), .inr ⟨0x010, by decide⟩⟩

/-- O17: a register destination other than the register read, and a cycle that writes none. -/
theorem witness_CompletedCycleRegisters :
    (Completes (machine { ci := 14, alu := aluField 7 3 3, kMux := true, constant := 9, bMux := true, rbAddr := 15 })
        (after (machine { ci := 14, alu := aluField 7 3 3, kMux := true, constant := 9, bMux := true, rbAddr := 15 }))
        { ci := 14, alu := aluField 7 3 3, kMux := true, constant := 9, bMux := true, rbAddr := 15 } ∧
      (0 : RegIx) ≠ cycleIndexB { ci := 14, alu := aluField 7 3 3, kMux := true, constant := 9, bMux := true, rbAddr := 15 }
        State.reset) ∧
    (Completes (machine cont) (after (machine cont)) cont ∧ cont.rs.toNat ≠ 2 ∧ cont.rs.toNat ≠ 3 ∧ cont.rs.toNat ≠ 1 ∧
      cont.ir = false) :=
  ⟨⟨completes_of (by decide), by decide⟩, completes_of (by decide), by decide, by decide, by decide, by decide⟩

/-- O18: each clause, with `PC` = 0xFFFF. -/
theorem witness_CompletedCyclePcAndAddressBus :
    (∀ ic ∈ ([0, 1, 2, 4, 8] : List (BitVec 4)), Completes ((machine { ci := 14, ic := ic }).setPc 0xFFFF)
      (after ((machine { ci := 14, ic := ic }).setPc 0xFFFF)) { ci := 14, ic := ic }) ∧
      ({ ci := 14, ic := 8 } : Fields).yMux.getLsbD 1 = false ∧ ({ ci := 14, ic := 1 } : Fields).yMux.getLsbD 0 = false := by
  refine ⟨?_, by decide, by decide⟩
  intro ic h
  have k : ([0, 1, 2, 4, 8] : List (BitVec 4)).all (fun ic =>
      completesB ((machine { ci := 14, ic := ic }).setPc 0xFFFF) { ci := 14, ic := ic }) = true := by decide
  exact completes_of (List.all_eq_true.mp k ic h)

/-- O19: a cycle that reads; cycles that write with `DBUS` untouched, loaded from `PC`, and routed with `ABUS`. -/
theorem witness_CompletedCycleMemory :
    (machine cont).mem.wf = true ∧ Completes (machine cont) (after (machine cont)) cont ∧
      Completes (machine { cont with mwe := true }) (after (machine { cont with mwe := true })) { cont with mwe := true } ∧
      Completes ((machine { cont with mwe := true, ic := 4 }).setPc 8)
        (after ((machine { cont with mwe := true, ic := 4 }).setPc 8)) { cont with mwe := true, ic := 4 } ∧
      Completes (machine storing) (after (machine storing)) storing ∧ storing.yMux = 3 :=
  ⟨by decide, completes_of (by decide), completes_of (by decide), completes_of (by decide), completes_of (by decide), rfl⟩

/-- O20: a step that completes and a step that does not. -/
theorem witness_CompletedCycleCounts :
    (goesOn (machine cont) ∧ step (machine cont) = .next (after (machine cont)) ∧ (after (machine cont)).outcome = .running) ∧
      (goesOn State.reset ∧ step State.reset = .next (after State.reset) ∧ (after State.reset).outcome ≠ .running) :=
  ⟨⟨⟨rfl, by decide⟩, eq_next_of_isNext _ (by decide), by decide⟩, ⟨rfl, by decide⟩, eq_next_of_isNext _ (by decide),
    by decide⟩

/-- O21. -/
theorem witness_HaltSentinelEndsTheRun :
    goesOn (machineAt 0x3F 0x7FFFFFFFFFFFFFFFFFF#75) ∧
      fetchWord (machineAt 0x3F 0x7FFFFFFFFFFFFFFFFFF#75) = some 0x7FFFFFFFFFFFFFFFFFF#75 :=
  ⟨⟨rfl, by decide⟩, by decide⟩

/-- O22: PUSH with five entries. -/
theorem witness_FaultFreezesTheState :
    let s := (machine { ci := 4 }).setStack [1, 2, 3, 4, 5]
    goesOn s ∧ step s = .next (after s) ∧ (after s).outcome = .faulted .stackOverflow :=
  ⟨⟨rfl, by decide⟩, eq_next_of_isNext _ (by decide), by decide⟩

/-- O23: each clause. The fields of the first three and the fourth would fault at later steps too; vector F5 loads the
unmapped opcode in the cycle itself; at step 10 an invalid instruction, a push and a call at five entries, and a return
and a pop with none. -/
theorem witness_FaultPriorityFollowsTheSteps :
    (goesOn State.reset ∧ fetchWord State.reset = none) ∧
    (∀ f ∈ ([{ ic := 3, alu := aluField 0 0 4, sscu := 0xC00, ci := 5 }, { alu := aluField 0 0 4, sscu := 0xC00, ci := 5 },
        { ic := 8, sscu := 0xC00, ci := 5 }, { ci := 5 }] : List Fields), runsFields ((machine f).setIr 0x1300) f) ∧
    (Reference.reachesMapping { ci := 5 } ∧ ¬ Reference.opcodeIsMapped { ci := 5 } ((machine { ci := 5 }).setIr 0x1300)) ∧
    (runsFields ((machine { ir := true, ci := 2 }).setDbus 0x1300) { ir := true, ci := 2 } ∧
      Reference.reachesMapping { ir := true, ci := 2 } ∧
      ¬ Reference.opcodeIsMapped { ir := true, ci := 2 } ((machine { ir := true, ci := 2 }).setDbus 0x1300)) ∧
    (runsFields (machine { ci := 15 }) { ci := 15 } ∧ Reference.reachesMapping { ci := 15 } ∧
      Reference.opcodeIsMapped { ci := 15 } (machine { ci := 15 })) ∧
    (∀ f ∈ ([{ ci := 4 }, { ci := 1 }] : List Fields), runsFields ((machine f).setStack [1, 2, 3, 4, 5]) f ∧
      Reference.reachesMapping f ∧ Reference.condOf f ((machine f).setStack [1, 2, 3, 4, 5]) = false) ∧
    (∀ f ∈ ([{ ci := 10 }, { ci := 11 }] : List Fields), runsFields (machine f) f ∧ Reference.reachesMapping f ∧
      Reference.condOf f (machine f) = false) := by
  refine ⟨⟨⟨rfl, by decide⟩, by decide⟩, ?_, ⟨reaches_of (by decide), not_mapped_of (by decide) (by decide)⟩,
    ⟨runs_of (by decide), reaches_of (by decide), not_mapped_of (by decide) (by decide)⟩,
    ⟨runs_of (by decide), reaches_of (by decide), .inl (by decide)⟩, ?_, ?_⟩
  · intro f h
    have k : ([{ ic := 3, alu := aluField 0 0 4, sscu := 0xC00, ci := 5 }, { alu := aluField 0 0 4, sscu := 0xC00, ci := 5 },
        { ic := 8, sscu := 0xC00, ci := 5 }, { ci := 5 }] : List Fields).all
          (fun f => runsB ((machine f).setIr 0x1300) f) = true := by decide
    exact runs_of (List.all_eq_true.mp k f h)
  · intro f h
    rcases List.mem_pair.mp h with rfl | rfl <;> exact ⟨runs_of (by decide), reaches_of (by decide), by decide⟩
  · intro f h
    rcases List.mem_pair.mp h with rfl | rfl <;> exact ⟨runs_of (by decide), reaches_of (by decide), by decide⟩

/-- O24. -/
theorem witness_IcActionRows : ({ ic := 4 } : Fields).ic ≠ 8 ∧ ({ ic := 8 } : Fields).ic = 8 := by decide

/-- O25: the least and the greatest malformed value. -/
theorem witness_MalformedIcFaults :
    (runsFields (machine { ic := 3 }) { ic := 3 } ∧ ({ ic := 3 } : Fields).ic.toNat ∉ [0, 1, 2, 4, 8]) ∧
      (runsFields (machine { ic := 15 }) { ic := 15 } ∧ ({ ic := 15 } : Fields).ic.toNat ∉ [0, 1, 2, 4, 8]) :=
  ⟨⟨runs_of (by decide), by decide⟩, runs_of (by decide), by decide⟩

/-- O33. -/
theorem witness_AluFlagValues :
    Instr.opSubr.family = .op ∧
      exec .opSubr (aluInputs 0xFFFF 0 true) = .next (stateOr State.reset (exec .opSubr (aluInputs 0xFFFF 0 true))) :=
  ⟨rfl, eq_next_of_isNext _ (by decide)⟩

/-- O34. -/
theorem witness_AluDestinationRows : (15 : RegIx) ≠ 0 := by decide

/-- O35: the least and the greatest illegal value. -/
theorem witness_IllegalResultSelectFaults :
    (runsFields (machine { alu := aluField 1 0 4 }) { alu := aluField 1 0 4 } ∧
      ({ alu := aluField 1 0 4 } : Fields).ic.toNat ∈ [0, 1, 2, 4, 8] ∧ 4 ≤ ({ alu := aluField 1 0 4 } : Fields).rs.toNat) ∧
    (runsFields (machine { ic := 8, alu := aluField 7 7 7 }) { ic := 8, alu := aluField 7 7 7 } ∧
      ({ ic := 8, alu := aluField 7 7 7 } : Fields).ic.toNat ∈ [0, 1, 2, 4, 8] ∧
        4 ≤ ({ ic := 8, alu := aluField 7 7 7 } : Fields).rs.toNat) :=
  ⟨⟨runs_of (by decide), by decide, by decide⟩, runs_of (by decide), by decide, by decide⟩

/-- Vector S13's fields. -/
def adding : Fields := { alu := aluField 1 0 3, aMux := true, raAddr := 1, bMux := true, rbAddr := 2, ci := 14 }

/-- O36: vector S13, with the carry set and clear; a subtraction into the accumulator with both latches; and an op that
takes no carry. -/
theorem witness_CarryInIsThePreviousMicroCarry :
    (Completes ((machine adding).setUS 0b0100) (after ((machine adding).setUS 0b0100)) adding ∧
      Completes (machine adding) (after (machine adding)) adding ∧ adding.op = 0 ∧ adding.rs.toNat = 3) ∧
    (let f : Fields := { alu := aluField 6 1 1, kMux := true, srMicro := true, srMacro := true, ci := 14 };
      Completes ((machine f).setUS 0b0100) (after ((machine f).setUS 0b0100)) f ∧ f.op = 1 ∧ f.rs.toNat = 1) ∧
    ({ alu := aluField 0 2 0 } : Fields).op = 2 ∧ 3 ≤ ({ alu := aluField 0 3 0 } : Fields).op.toNat :=
  ⟨⟨completes_of (by decide), completes_of (by decide), by decide, by decide⟩,
    ⟨completes_of (by decide), by decide, by decide⟩, by decide, by decide⟩

/-- Vector E6's fields. -/
def overriding : Fields := { ic := 1, alu := aluField 7 3 0, kMux := true, constant := 0x100, yMux := 1, ci := 14 }

/-- O38: vector E6; then `y` = `PC` routed to both buses over the IC write of `DBUS` and loaded into `IR`, in a cycle that
writes; vector E5's load of `PC`; and the pass-through of a register. -/
theorem witness_RoutingOverridesTheIcWrite :
    (Completes ((machine overriding).setPc 5) (after ((machine overriding).setPc 5)) overriding ∧ overriding.ic = 1 ∧
      overriding.yMux.getLsbD 0 = true ∧ overriding.kMux = true ∧ overriding.ds = 7 ∧ overriding.op = 3 ∧
        overriding.rs ≠ 2) ∧
    (let f : Fields := { mwe := true, ir := true, ic := 4, yMux := 3, alu := aluField 7 3 0, ci := 14 };
      Completes ((machine f).setPc 5) (after ((machine f).setPc 5)) f ∧ f.yMux.getLsbD 1 = true) ∧
    (let f : Fields := { ic := 8, yMux := 2, alu := aluField 7 3 2, kMux := true, constant := 0x1234, ci := 14 };
      Completes (machine f) (after (machine f)) f ∧ f.ic = 8 ∧ f.yMux.getLsbD 1 = true ∧ f.rs = 2) :=
  ⟨⟨completes_of (by decide), by decide, by decide, by decide, by decide, by decide, by decide⟩,
    ⟨completes_of (by decide), by decide⟩, completes_of (by decide), by decide, by decide, by decide⟩

/-- Vector Q7's fields. -/
def dispatching : Fields := { ir := true, ci := 2 }

/-- O39: a mapped opcode and opcode 0, on the bus. -/
theorem witness_IrLoadIsDispatchedAtOnce :
    let s := ((machine dispatching).setDbus 0x0200).setProm [(2, 0x010)]
    (Completes s (after s) dispatching ∧ dispatching.ir = true ∧ dispatching.ci = 2 ∧
      dispatching.yMux.getLsbD 1 = false ∧ dispatching.ic.toNat ≠ 4 ∧ (after s).ir.extractLsb' 8 8 ≠ 0) ∧
      Completes (machine dispatching) (after (machine dispatching)) dispatching ∧
        (after (machine dispatching)).ir.extractLsb' 8 8 = 0 :=
  ⟨⟨completes_of (by decide), by decide, by decide, by decide, by decide, by decide⟩, completes_of (by decide), by decide⟩

/-- O40: no source, and a source. -/
theorem witness_ConditionRows : (source none).sig.src = none ∧ (source (some 0b0101)).sig.src = some 0b0101 := by decide

/-- O41: `sel` = 11 with the micro latch on. -/
theorem witness_IllegalStatusSelectFaults :
    let f : Fields := { sscu := 0xC05, srMicro := true }
    runsFields (machine f) f ∧ f.ic.toNat ∈ [0, 1, 2, 4, 8] ∧ f.rs.toNat < 4 ∧ f.sel = 3 :=
  ⟨runs_of (by decide), by decide, by decide, by decide⟩

/-- Vector S14's fields, with both latches or neither. -/
def latching (b : Bool) (sscu : BitVec 12) : Fields := { alu := aluField 7 7 0, srMacro := b, srMicro := b, sscu := sscu, ci := 14 }

/-- O42: both latches off, both on, and two cycles that differ in `sscu` alone. -/
theorem witness_StatusLatches :
    Completes (machine (latching false 0)) (after (machine (latching false 0))) (latching false 0) ∧
      Completes (machine (latching true 0)) (after (machine (latching true 0))) (latching true 0) ∧
      Completes (machine (latching true 0x805)) (after (machine (latching true 0x805))) (latching true 0x805) ∧
      machine (latching true 0x805) = (machine (latching true 0)).setStore (machine (latching true 0x805)).store ∧
      latching true 0x805 = { latching true 0 with
        sscu := (latching true 0x805).sscu, ccen := (latching true 0x805).ccen,
        srMacro := (latching true 0x805).srMacro, srMicro := (latching true 0x805).srMicro } :=
  ⟨completes_of (by decide), completes_of (by decide), completes_of (by decide), rfl, rfl⟩

/-- Vector S12's fields, with the source chosen. -/
def testing (sel : BitVec 2) : Fields :=
  { bar := 0x40, ci := 3, ccen := true, srMicro := true, sscu := sscuField 5 0 sel, alu := aluField 7 3 0, kMux := true }

/-- O43: CJP on each source, with Z clear and set; then CJS, CRTN and CJPP on both paths. -/
theorem witness_ConditionReadsTheOldStatus :
    (∀ w ∈ ([0, 1] : List Status), Completes ((machine (testing 2)).setUS w) (after ((machine (testing 2)).setUS w)) (testing 2) ∧
      Completes ((machine (testing 1)).setMS w) (after ((machine (testing 1)).setMS w)) (testing 1)) ∧
      ((testing 2).ci.toNat = 3 ∧ (testing 2).ccen = true ∧ (testing 2).cop = 5 ∧ (testing 2).sel = 2 ∧ (testing 1).sel = 1 ∧
        (testing 1).cop = 5 ∧ (testing 0).sel = 0) ∧
      (∀ p ∈ ([(1, true), (1, false), (10, true), (10, false), (11, true), (11, false)] : List (BitVec 4 × Bool)),
        Completes ((machine { ci := p.1, ccen := p.2 }).setStack [7]) (after ((machine { ci := p.1, ccen := p.2 }).setStack [7]))
          { ci := p.1, ccen := p.2 } ∧
        Reference.condOf { ci := p.1, ccen := p.2 } ((machine { ci := p.1, ccen := p.2 }).setStack [7]) = p.2) := by
  refine ⟨?_, ⟨by decide, by decide, by decide, by decide, by decide, by decide, by decide⟩, ?_⟩
  · intro w h
    have k : ([0, 1] : List Status).all (fun w => completesB ((machine (testing 2)).setUS w) (testing 2)
        && completesB ((machine (testing 1)).setMS w) (testing 1)) = true := by decide
    have m := List.all_eq_true.mp k w h
    rw [Bool.and_eq_true] at m
    exact ⟨completes_of m.1, completes_of m.2⟩
  · intro p h
    have k : ([(1, true), (1, false), (10, true), (10, false), (11, true), (11, false)] : List (BitVec 4 × Bool)).all
        (fun p => completesB ((machine { ci := p.1, ccen := p.2 }).setStack [7]) { ci := p.1, ccen := p.2 }
          && decide (Reference.condOf { ci := p.1, ccen := p.2 } ((machine { ci := p.1, ccen := p.2 }).setStack [7]) = p.2))
        = true := by decide
    have m := List.all_eq_true.mp k p h
    rw [Bool.and_eq_true, decide_eq_true_eq] at m
    exact ⟨completes_of m.1, m.2⟩

/-- O44: bits 9:6 all 0 and all 1. -/
theorem witness_UnreadBitsHaveNoEffect :
    (machine cont).outcome = .running ∧
      ({ cont with sscu := 0x3C0 } : Fields) = { cont with sscu := ({ cont with sscu := 0x3C0 } : Fields).sscu } ∧
      ({ cont with sscu := 0x3C0 } : Fields).sel = cont.sel ∧ ({ cont with sscu := 0x3C0 } : Fields).cop = cont.cop ∧
      ({ cont with sscu := 0x3C0 } : Fields).unread = 15 := by decide

/-- O45: opcode 0 and a mapped opcode. -/
theorem witness_MacroWordsAreMapped :
    (encode (.macNoInstruction 1 2) = .macroWord 0x0012 ∧ (0x0012 : Word).extractLsb' 8 8 = 0) ∧
      (encode (.macAdd 1 2) = .macroWord 0x0512 ∧ (0x0512 : Word).extractLsb' 8 8 ≠ 0 ∧
        callingState.prom.read ((0x0512 : Word).extractLsb' 8 8) = some 0xFFF) := by decide

/-- O46: the halt word with an empty table; an unmapped opcode held in `IR`; and vector F5, which loads it. -/
theorem witness_UnmappedMacroOpcodeFaults :
    (encode .macHalt = .macroWord 0xFF00 ∧ (0xFF00 : Word).extractLsb' 8 8 ≠ 0 ∧
      State.reset.prom.read ((0xFF00 : Word).extractLsb' 8 8) = none) ∧
    (runsFields ((machine cont).setIr 0x1300) cont ∧ Reference.reachesMapping cont ∧
      ¬ Reference.opcodeIsMapped cont ((machine cont).setIr 0x1300) ∧ cont.ir = false ∧
      ((machine cont).setIr 0x1300).ir.extractLsb' 8 8 ≠ 0 ∧
      ((machine cont).setIr 0x1300).prom.read (((machine cont).setIr 0x1300).ir.extractLsb' 8 8) = none) ∧
    (let f : Fields := { ir := true, ci := 2 };
      runsFields ((machine f).setDbus 0x1300) f ∧ Reference.reachesMapping f ∧ f.ir = true ∧
        f.yMux.getLsbD 1 = false ∧ f.ic.toNat ≠ 4 ∧ ((machine f).setDbus 0x1300).dbus.extractLsb' 8 8 ≠ 0 ∧
        ((machine f).setDbus 0x1300).prom.read (((machine f).setDbus 0x1300).dbus.extractLsb' 8 8) = none) :=
  ⟨by decide, ⟨runs_of (by decide), reaches_of (by decide), not_mapped_of (by decide) (by decide), by decide, by decide,
    by decide⟩, runs_of (by decide), reaches_of (by decide), by decide, by decide, by decide, by decide, by decide⟩

/-- O49: the sequential path, and each of the three other rows of R282's table. -/
theorem witness_ConditionalJumpRow :
    (true = true ∧ (State.reset.setSig Signals.rest).sig.cbit = false) ∧
      ¬ (true = true ∧ (State.reset.setSig { Signals.rest with cbit := true }).sig.cbit = false) ∧
      ¬ (false = true ∧ State.reset.sig.cbit = false) ∧
      ¬ (false = true ∧ (State.reset.setSig { Signals.rest with cbit := true }).sig.cbit = false) := by decide

/-- O50: the stack at four entries and at five. -/
theorem witness_CallAndPushRows :
    (true = true ∧ State.reset.sig.cbit = false) ∧ ¬ (false = true ∧ State.reset.sig.cbit = false) ∧
      (State.reset.setStack [1, 2, 3, 4]).stack.length < 5 ∧ (State.reset.setStack [1, 2, 3, 4, 5]).stack.length = 5 := by
  decide

/-- O51: one entry, and none. -/
theorem witness_ReturnAndPopRows :
    (true = true ∧ State.reset.sig.cbit = false) ∧ ¬ (false = true ∧ State.reset.sig.cbit = false) ∧
      (State.reset.setStack [7]).stack = [] ++ [7] ∧ State.reset.stack = [] := by decide

/-- O52: a call and a push with four entries. -/
theorem witness_CallThenReturn :
    let s := State.reset.setStack [1, 2, 3, 4]
    s.stack.length < 5 ∧ exec (.ciCjs 0x10 false) s = .next (stateOr s (exec (.ciCjs 0x10 false) s)) ∧
      exec (.ciPush 0x10) s = .next (stateOr s (exec (.ciPush 0x10) s)) :=
  ⟨by decide, eq_next_of_isNext _ (by decide), eq_next_of_isNext _ (by decide)⟩

/-- O54. -/
theorem witness_SequentialAddressDoesNotWrap :
    Completes (machineAt 4095 0x380000#75) (after (machineAt 4095 0x380000#75)) cont ∧ cont.ci = 14 ∧
      (machineAt 4095 0x380000#75).mic = 4095 ∧
        (after (machineAt 4095 0x380000#75)).calls < (after (machineAt 4095 0x380000#75)).stepLimit :=
  ⟨completes_of (by decide), by decide, by decide, by decide⟩

/-- O55: a listed memory, an address it does not list, and another one. -/
theorem witness_MemoryStageRows :
    (State.reset.setMem [(0x10, 0xABCD), (0xFFFF, 1)]).mem.wf = true ∧ (0xFFFF : Word) ≠ State.reset.abus ∧
      ∀ c ∈ ([(0x10, 0xABCD), (0xFFFF, 1)] : Memory), c.1 ≠ (0x11 : Word).toNat := by decide

/-- Two cycles: a write at `ABUS`, then a read there. -/
def twoCycles : State :=
  ((State.reset.setStore [(0, 0x380001#75), (1, 0x380000#75)]).setAbus 0xFFFF).setDbus 0xABCD

/-- O56. -/
theorem witness_StoreThenLoad :
    twoCycles.mem.wf = true ∧ Completes twoCycles (after twoCycles) { cont with mwe := true } ∧
      Completes (after twoCycles) (after (after twoCycles)) cont ∧ ({ cont with mwe := true } : Fields).mwe = true ∧
      cont.mwe = false ∧ (after (after twoCycles)).abus = (after twoCycles).abus :=
  ⟨by decide, completes_of (by decide), completes_of (by decide), rfl, rfl, by decide⟩

/-- O57: a memory in canonical form; an image that lists an address twice, one that it lists last and one that it lacks. -/
theorem witness_HostLoads :
    (State.reset.setMem [(0xFFFF, 1)]).mem.wf = true ∧
      (∀ p ∈ ([(0, 7), (5, 8), (0, 9)] : List (Word × Word)), p.1 ≠ 0xFFFF) ∧
      ([(0, 7), (5, 8), (0, 9)] : List (Word × Word)) = [(0, 7), (5, 8)] ++ (0, 9) :: [] ∧
      (∀ p ∈ ([] : List (Word × Word)), p.1 ≠ 0) ∧
      ([(0, 7), (5, 8), (0, 9)] : List (Word × Word)) = [(0, 7)] ++ (5, 8) :: [(0, 9)] ∧
      (∀ p ∈ ([(0, 9)] : List (Word × Word)), p.1 ≠ 5) :=
  ⟨by decide, by simp, rfl, by simp, rfl, by simp⟩

/-- A cycle that writes a register, both buses and `IR`, latches, and then faults at step 10 where the stack holds five
entries (vector F6), with one field changed for the other faults. -/
def lateFault (f : Fields) : State := ((machine f).setPc 5).setStack [1, 2, 3, 4, 5]

/-- `{ci=PUSH}` with writes at steps 3 to 8. -/
def pushing : Fields :=
  { mwe := true, ic := 1, ci := 4, srMicro := true, srMacro := true, yMux := 2, alu := aluField 7 7 3, kMux := true, ir := true }

/-- Whether a machine fetches these fields, goes on, and ends its run with a fault in the next step. -/
def faultsB (s : State) (f : Fields) (k : Fault) : Bool :=
  runsB s f && isNext (step s) && decide ((after s).outcome = .faulted k)

theorem faults_of {s : State} {f : Fields} {k : Fault} (h : faultsB s f k = true) :
    runsFields s f ∧ step s = .next (after s) ∧ (after s).outcome = .faulted k := by
  simp only [faultsB, Bool.and_eq_true, decide_eq_true_eq] at h
  exact ⟨runs_of h.1.1, eq_next_of_isNext s h.1.2, h.2⟩

/-- O58: a missing word, and each fault of steps 3 to 10 in a cycle that writes before it. -/
theorem witness_FaultKeepsTheEarlierWrites :
    (goesOn State.reset ∧ fetchWord State.reset = none) ∧
    ∀ p ∈ ([({ pushing with ic := 3 }, .malformedIcField), ({ pushing with alu := aluField 7 7 4 }, .illegalResultSelect),
        ({ pushing with sscu := 0xC00 }, .illegalStatusSelect), ({ pushing with alu := aluField 7 3 3, constant := 0x1300 },
        .unmappedMacroOpcode), ({ pushing with alu := aluField 7 3 3, ci := 5 }, .invalidControllerInstruction),
        ({ pushing with alu := aluField 7 3 3 }, .stackOverflow)] : List (Fields × Fault)),
      runsFields (lateFault p.1) p.1 ∧ step (lateFault p.1) = .next (after (lateFault p.1)) ∧
        (after (lateFault p.1)).outcome = .faulted p.2 := by
  refine ⟨⟨⟨rfl, by decide⟩, by decide⟩, ?_⟩
  intro p h
  have k : ([({ pushing with ic := 3 }, .malformedIcField), ({ pushing with alu := aluField 7 7 4 }, .illegalResultSelect),
      ({ pushing with sscu := 0xC00 }, .illegalStatusSelect), ({ pushing with alu := aluField 7 3 3, constant := 0x1300 },
      .unmappedMacroOpcode), ({ pushing with alu := aluField 7 3 3, ci := 5 }, .invalidControllerInstruction),
      ({ pushing with alu := aluField 7 3 3 }, .stackOverflow)] : List (Fields × Fault)).all
        (fun p => faultsB (lateFault p.1) p.1 p.2) = true := by decide
  exact faults_of (List.all_eq_true.mp k p h)

/-- O58: StackUnderflow. -/
theorem witness_FaultKeepsTheEarlierWrites_underflow :
    let f : Fields := { adding with ci := 10, srMicro := true }
    runsFields (machine f) f ∧ step (machine f) = .next (after (machine f)) ∧
      (after (machine f)).outcome = .faulted .stackUnderflow :=
  faults_of (by decide)

/-- O59: a run that halts at once, and one that meets its ceiling after a cycle, each from a state with the invariant. -/
theorem witness_SnapshotAndResult :
    ((machineAt 5 0x7FFFFFFFFFFFFFFFFFF#75).setStepLimit 3).outcome = .running ∧
      (runResult ((machineAt 5 0x7FFFFFFFFFFFFFFFFFF#75).setStepLimit 3)).1 = .halted ∧
      StateOk ((machine {}).setStepLimit 1) ∧ ((machine {}).setStepLimit 1).outcome = .running ∧
      (runResult ((machine {}).setStepLimit 1)).1 = .stepLimitExceeded :=
  ⟨rfl, by decide, ⟨⟨by decide, by decide, by decide⟩, ⟨by decide, by decide⟩, by decide, by decide, ⟨by decide, rfl⟩⟩, rfl,
    by decide⟩

end Sys2Proof.Tests
end

section
/-! SUPPORT. The statements on construction and on words written out by hand: how each decoder reads a word from the
word's own fields, and what memory and the register file hold where nothing is listed. -/

namespace Sys2Proof

/-! ## The decoders, from a word's own fields -/

/-- A word other than the halt sentinel holds in each family the row of its field (R110, R116). -/
theorem decodeRow_of_ne {w : ControlWord} (fam : Family) (h : w ≠ Config.haltWord) :
    decodeRow fam w = (extractFields w).row fam := by
  rw [decodeRow, decodeWord_of_ne h]

/-- Opcode 0x01 is MOV between two registers (R372). -/
theorem decodeMacro_of_opcode_movRegReg {w : Word} (h : macroOpcode w = 0x01) :
    decodeMacro w = .ok (.macMovRegReg (macroRegA w) (macroRegB w)) := by
  simp [decodeMacro, h]

/-- Opcode 0x0A is JMP to a register (R381). -/
theorem decodeMacro_of_opcode_jmpReg {w : Word} (h : macroOpcode w = 0x0A) :
    decodeMacro w = .ok (.macJmpReg (macroRegA w) (macroRegB w)) := by
  simp [decodeMacro, h]

end Sys2Proof

namespace Sys2Proof.Machine

/-! ## Memory and registers that nothing has written -/

/-- A lookup finds nothing at a key that the map does not list. -/
theorem lookupCell_of_unlisted {α : Type} {m : List (Nat × α)} {a : Nat} (h : ∀ c ∈ m, c.1 ≠ a) :
    lookupCell m a = none := by
  induction m with
  | nil => rfl
  | cons c rest ih =>
    obtain ⟨hc, hrest⟩ := List.forall_mem_cons.mp h
    rw [lookupCell, if_neg hc, ih hrest]

/-- An unlisted word of memory reads 0 (R70, R73). -/
theorem Memory.read_of_unlisted {m : Memory} {a : Word} (h : ∀ c ∈ m, c.1 ≠ a.toNat) : m.read a = 0 := by
  rw [Memory.read, lookupCell_of_unlisted h]
  rfl

/-- Memory reads 0 everywhere at construction (R47). -/
@[simp] theorem State.reset_mem_read (a : Word) : State.reset.mem.read a = 0 :=
  Memory.read_of_unlisted (List.forall_mem_nil _)

/-- Every register is 0 at construction (R47, decision D6). -/
@[simp] theorem State.reset_reg (i : RegIx) : State.reset.reg i = 0 :=
  Vector.getElem_replicate i.isLt

end Sys2Proof.Machine

namespace Sys2Proof

/-! ## The statements -/

/-- Settles O4: no word but the last control word is the halt sentinel, so each is read from its own bits. -/
theorem handWrittenWordsDecode : Obligations.HandWrittenWordsDecode := by
  have hnext : (0x380004#75 : ControlWord) ≠ Config.haltWord := by decide
  refine ⟨?vectorD1, ?icRow, ?ciRow, ?halt, ?mov, ?jmp⟩
  case vectorD1 =>
    rw [decodeWord_of_ne (by decide)]
    decide
  case icRow =>
    rw [decodeRow_of_ne .ic hnext]
    decide
  case ciRow =>
    rw [decodeRow_of_ne .ci hnext]
    decide
  case halt => exact decodeWord_haltWord
  case mov =>
    rw [decodeMacro_of_opcode_movRegReg (by decide)]
    decide
  case jmp =>
    rw [decodeMacro_of_opcode_jmpReg (by decide)]
    decide

/-- Settles O12: the register file and memory by their lemmas, every other piece of state by the definition of reset. -/
theorem constructionValues : Obligations.ConstructionValues :=
  ⟨rfl, rfl, rfl, rfl, rfl, rfl, Machine.State.reset_reg, rfl, rfl, rfl, Machine.State.reset_mem_read, rfl, rfl, rfl⟩

end Sys2Proof
end

section
/-! SUPPORT. What a whole microcycle does (44_cycle.md): the effect of the row of each field as one equation over the
field's value, the state after each group of steps in the terms of Reference.lean, and the ways in which a cycle and a
step can end. The statements about whole cycles go through these and unfold no row. -/

namespace Sys2Proof.Machine

open Sys2Proof.Reference

/-! ## The row of each field, by the field's value -/

/-- An `ic` with more than one bit set is a malformed row (R323). -/
theorem exec_icOrder_malformed {v : BitVec 4} (h : v.toNat ∉ [0, 1, 2, 4, 8]) (s : State) :
    exec (icOrder v) s = raise .malformedIcField s := by
  have hv : v ∈ ([3, 5, 6, 7, 9, 10, 11, 12, 13, 14, 15] : List (BitVec 4)) := by
    revert v; decide
  simp only [List.mem_cons, List.not_mem_nil, or_false] at hv
  rcases hv with rfl | rfl | rfl | rfl | rfl | rfl | rfl | rfl | rfl | rfl | rfl <;> rfl

/-- The state after step 3: the IC action, `PC <- DBUS` apart, which waits for step 6 (R324 to R328). -/
def afterIc (f : Fields) (s : State) : State :=
  ((s.setAbus (if f.ic.toNat = 1 then s.pc else s.abus)).setDbus
    (if f.ic.toNat = 4 then s.pc else s.dbus)).setPc (if f.ic.toNat = 2 then s.pc + 1 else s.pc)

/-- The four IC actions of step 3 (R324 to R327). -/
theorem exec_icOrder_legal {f : Fields} (h : f.ic.toNat ∈ [0, 1, 2, 4, 8]) (h8 : f.ic ≠ 8) (s : State) :
    exec (icOrder f.ic) s = .next (afterIc f s) := by
  have hv : f.ic = 0 ∨ f.ic = 1 ∨ f.ic = 2 ∨ f.ic = 4 := by
    revert h h8; generalize f.ic = v; revert v; decide
  rcases hv with hv | hv | hv | hv <;> simp only [afterIc, hv] <;> rfl

theorem exec_aMuxOrder (f : Fields) (s : State) :
    exec (aMuxOrder f.aMux f.raAddr) s = .next (s.setSig { s.sig with ia := cycleIndexA f s }) := by
  unfold aMuxOrder cycleIndexA
  cases f.aMux <;> rfl

theorem exec_bMuxOrder (f : Fields) (s : State) :
    exec (bMuxOrder f.bMux f.rbAddr) s = .next (s.setSig { s.sig with ib := cycleIndexB f s }) := by
  unfold bMuxOrder cycleIndexB
  cases f.bMux <;> rfl

theorem exec_kMuxOrder (f : Fields) (s : State) :
    exec (kMuxOrder f.kMux f.constant) s =
      .next (s.setSig { s.sig with d := if f.kMux then f.constant else s.dbus }) := by
  unfold kMuxOrder
  cases f.kMux <;> rfl

/-- The source selection is R180's two lists (R182 to R189). -/
theorem exec_dsOrder (v : BitVec 3) (s : State) :
    exec (dsOrder v) s = .next (s.setSig { s.sig with
      r := operandR v.toNat (operandA s) s.sig.d
      s := operandS v.toNat (operandA s) (operandB s) s.acc }) := by
  obtain ⟨⟨n, hn⟩⟩ := v
  interval_cases n <;> rfl

/-- The flags are the four bits of R199. -/
theorem flagsOf_eq_flagBits (raw : Int) : flagsOf raw = flagBits raw := by
  have hmask : mask16 raw = 0#16 ↔ raw % 65536 = 0 := mask16_eq_zero raw
  unfold flagsOf flagBits
  by_cases hbig : raw > 65535 <;> by_cases hneg : raw < 0 <;> by_cases hz : raw % 65536 = 0 <;>
    simp [hbig, hneg, hz, hmask]

/-- The function of an `op` is its line of section 3's table (R190 to R199). -/
theorem exec_opOrder (v : BitVec 3) (s : State) :
    exec (opOrder v) s = .next (s.setSig { s.sig with
      f := BitVec.ofInt 16 (rawResult v.toNat s.sig.r s.sig.s (if s.uS.getLsbD 2 then 1 else 0))
      flags := flagBits (rawResult v.toNat s.sig.r s.sig.s (if s.uS.getLsbD 2 then 1 else 0)) }) := by
  rw [← flagsOf_eq_flagBits]
  obtain ⟨⟨n, hn⟩⟩ := v
  interval_cases n <;> rfl

/-- `rs` of 4 to 7 has no destination (R204). -/
theorem exec_rsOrder_illegal {v : BitVec 3} (h : 4 ≤ v.toNat) (s : State) :
    exec (rsOrder v) s = raise .illegalResultSelect s := by
  obtain ⟨⟨n, hn⟩⟩ := v
  change 4 ≤ n at h
  interval_cases n <;> rfl

/-- The four destinations and the output (R200 to R203). -/
theorem exec_rsOrder_legal {v : BitVec 3} (h : v.toNat < 4) (s : State) :
    exec (rsOrder v) s = .next (((s.setRegs
      (if v.toNat = 2 ∨ v.toNat = 3 then (s.setReg s.sig.ib s.sig.f).regs else s.regs)).setAcc
      (if v.toNat = 1 then s.sig.f else s.acc)).setSig
      { s.sig with y := if v.toNat = 2 then operandA s else s.sig.f }) := by
  obtain ⟨⟨n, hn⟩⟩ := v
  change n < 4 at h
  interval_cases n <;> rfl

/-- The routing of `y`: bit 0 to the address bus, bit 1 to the data bus (R332). -/
theorem exec_yMuxOrder (v : BitVec 2) (s : State) :
    exec (yMuxOrder v) s = .next ((s.setAbus (if v.getLsbD 0 then s.sig.y else s.abus)).setDbus
      (if v.getLsbD 1 then s.sig.y else s.dbus)) := by
  have hv : v = 0 ∨ v = 1 ∨ v = 2 ∨ v = 3 := by revert v; decide
  rcases hv with rfl | rfl | rfl | rfl <;> rfl

/-- `sel` = 11 is no source (R242). -/
theorem exec_selOrder_illegal {v : BitVec 2} (h : v.toNat = 3) (s : State) :
    exec (selOrder v) s = raise .illegalStatusSelect s := by
  obtain rfl : v = 3 := BitVec.eq_of_toNat_eq h
  rfl

/-- The condition source (R243 to R245). -/
def conditionSource (sel : Nat) (uS mS : Status) : Option Status :=
  if sel = 0 then none else some (if sel = 2 then uS else mS)

theorem exec_selOrder_legal {v : BitVec 2} (h : v.toNat ≠ 3) (s : State) :
    exec (selOrder v) s = .next (s.setSig { s.sig with src := conditionSource v.toNat s.uS s.mS }) := by
  have hv : v = 0 ∨ v = 1 ∨ v = 2 := by revert v; decide
  rcases hv with rfl | rfl | rfl <;> rfl

/-- The test of a `cop` on the C and Z bits of the source (R246 to R252). -/
def conditionTest (cop : Nat) (c z : Bool) : Bool :=
  if cop = 0x04 then !z else if cop = 0x05 then z else if cop = 0x0A then !c else if cop = 0x0B then c
  else if cop = 0x0C then (!c && !z) else if cop = 0x0D then (c || z) else false

theorem exec_copOrder (v : BitVec 6) (s : State) :
    exec (copOrder v) s = latchCondition (conditionTest v.toNat) s := by
  obtain ⟨⟨n, hn⟩⟩ := v
  interval_cases n <;> rfl

/-- With the source of `sel`, the test of `cop` is R240's condition bit. -/
theorem latchCondition_conditionTest {sel : Nat} (cop : Nat) {uS mS : Status} {s : State}
    (h : s.sig.src = conditionSource sel uS mS) :
    latchCondition (conditionTest cop) s =
      .next (s.setSig { s.sig with cbit := conditionBit sel cop uS mS }) := by
  by_cases h0 : sel = 0
  · rw [latchCondition_none _ (by rw [h, conditionSource, if_pos h0]), conditionBit, if_pos h0]
  · rw [latchCondition_some _ (by rw [h, conditionSource, if_neg h0]), conditionBit, if_neg h0]
    rfl

theorem exec_mweOrder (b : Bool) (s : State) :
    exec (mweOrder b) s = .next ((s.setMem (if b then s.mem.write s.abus s.dbus else s.mem)).setDbus
      (if b then s.dbus else s.mem.read s.abus)) := by
  cases b <;> rfl

/-! ## Rows in sequence -/

/-- A row that answers a running state is followed by the rest. -/
theorem runOrders_cons_of_next {i : Instr} {rest : List Instr} {s t : State} (h : exec i s = .next t)
    (ht : t.outcome = .running) : runOrders (i :: rest) s = runOrders rest t := by
  rw [runOrders_cons, h, andThen_running ht]

/-- A raised fault cuts off what comes next (R401, R402). -/
theorem andThen_raise (k : Fault) (s : State) (next : State → Result) : andThen (raise k s) next = raise k s :=
  andThen_ended (by simp) next

theorem runOrders_cons_of_raise {i : Instr} {rest : List Instr} {k : Fault} {s u : State} (h : exec i s = raise k u) :
    runOrders (i :: rest) s = raise k u := by
  rw [runOrders_cons, h, andThen_raise]

/-- A row that only some words hold. -/
theorem runOrders_ite {c : Prop} [Decidable c] {i : Instr} {s t : State} (h : c → exec i s = .next t) :
    runOrders (if c then [i] else []) s = .next (if c then t else s) := by
  split
  next hc => rw [runOrders_cons, h hc, andThen_next, runOrders_nil, ite_self]
  next => rfl

theorem runOrders_ite_append {c : Prop} [Decidable c] {i : Instr} {s t : State} (h : c → exec i s = .next t)
    (ht : t.outcome = .running) (rest : List Instr) :
    runOrders ((if c then [i] else []) ++ rest) s = runOrders rest (if c then t else s) := by
  split
  next hc => exact runOrders_cons_of_next (h hc) ht
  next => rfl

/-! ## The stages of a cycle -/

/-- The signals after the operand multiplexers (R329, R330). -/
def muxSignals (f : Fields) (s : State) : Signals :=
  { s.sig with ia := cycleIndexA f s, ib := cycleIndexB f s, d := inputD f s }

/-- The signals after the source selection (R182 to R189). -/
def inputSignals (f : Fields) (s : State) : Signals := { muxSignals f s with r := inputR f s, s := inputS f s }

/-- The signals after the ALU function (R190 to R199). -/
def resultSignals (f : Fields) (s : State) : Signals :=
  { inputSignals f s with f := resultF f s, flags := flagsNow f s }

/-- The signals after the destination (R200 to R203). -/
def outputSignals (f : Fields) (s : State) : Signals := { resultSignals f s with y := outputY f s }

/-- The signals after the status unit (R242 to R252). -/
def statusSignals (f : Fields) (s : State) : Signals :=
  { outputSignals f s with
    src := conditionSource f.sel.toNat s.uS s.mS
    cbit := conditionBit f.sel.toNat f.cop.toNat s.uS s.mS }

/-- The state after step 4 (R329 to R331). -/
def afterAlu (f : Fields) (s : State) : State :=
  (((afterIc f s).setRegs (regsAfter f s)).setAcc (accAfter f s)).setSig (outputSignals f s)

/-- The state after step 7: routing, `PC <- DBUS` and the IR load (R332 to R334). -/
def afterIrLoad (f : Fields) (s : State) : State :=
  ((((afterAlu f s).setAbus (abusRouted f s)).setDbus (dbusRouted f s)).setPc (pcAfter f s)).setIr (irAfter f s)

/-- The state after step 8 (R242 to R255). -/
def afterStatus (f : Fields) (s : State) : State :=
  (((afterIrLoad f s).setUS (if f.srMicro then flagsNow f s else s.uS)).setMS
    (if f.srMacro then flagsNow f s else s.mS)).setSig (statusSignals f s)

@[simp] theorem afterIc_outcome (f : Fields) (s : State) : (afterIc f s).outcome = s.outcome := rfl
@[simp] theorem afterAlu_outcome (f : Fields) (s : State) : (afterAlu f s).outcome = s.outcome := rfl
@[simp] theorem afterIrLoad_outcome (f : Fields) (s : State) : (afterIrLoad f s).outcome = s.outcome := rfl
@[simp] theorem afterStatus_outcome (f : Fields) (s : State) : (afterStatus f s).outcome = s.outcome := rfl

section Stages

variable {f : Fields} {s : State}

/-- Step 3 (R323 to R327). -/
theorem runOrders_icFirst (hs : s.outcome = .running) :
    runOrders (if f.ic = 8 then [] else [icOrder f.ic]) s =
      if f.ic.toNat ∈ [0, 1, 2, 4, 8] then .next (afterIc f s) else raise .malformedIcField s := by
  by_cases h8 : f.ic = 8
  · rw [if_pos h8, if_pos (by simp [h8]), runOrders_nil]
    simp only [afterIc, h8]
    rfl
  · rw [if_neg h8]
    split
    next h => exact runOrders_cons_of_next (exec_icOrder_legal h h8 s) hs
    next h => exact runOrders_cons_of_raise (exec_icOrder_malformed h s)

/-- The operand multiplexers (R329, R330). -/
theorem runOrders_mux (hs : s.outcome = .running) (rest : List Instr) :
    runOrders (aMuxOrder f.aMux f.raAddr :: bMuxOrder f.bMux f.rbAddr :: kMuxOrder f.kMux f.constant :: rest)
        (afterIc f s) = runOrders rest ((afterIc f s).setSig (muxSignals f s)) := by
  rw [runOrders_cons_of_next (exec_aMuxOrder f _), runOrders_cons_of_next (exec_bMuxOrder f _),
    runOrders_cons_of_next (exec_kMuxOrder f _)]
  · rfl
  all_goals simpa using hs

/-- The source selection of a cycle. -/
theorem exec_dsOrder_muxed :
    exec (dsOrder f.ds) ((afterIc f s).setSig (muxSignals f s)) =
      .next ((afterIc f s).setSig (inputSignals f s)) :=
  exec_dsOrder _ _

/-- The ALU function of a cycle. -/
theorem exec_opOrder_inputs :
    exec (opOrder f.op) ((afterIc f s).setSig (inputSignals f s)) =
      .next ((afterIc f s).setSig (resultSignals f s)) :=
  exec_opOrder _ _

/-- The destination of a cycle. -/
theorem exec_rsOrder_result (h : f.rs.toNat < 4) :
    exec (rsOrder f.rs) ((afterIc f s).setSig (resultSignals f s)) = .next (afterAlu f s) := by
  have hdrop : ∀ (u : State) (v w : Signals) (r : Vector Word 16) (a : Word),
      (((u.setSig v).setRegs r).setAcc a).setSig w = ((u.setRegs r).setAcc a).setSig w := fun _ _ _ _ _ => rfl
  rw [exec_rsOrder_legal h, afterAlu, hdrop]
  rfl

/-- Step 4 (R329 to R331). -/
theorem runOrders_alu (hs : s.outcome = .running) :
    runOrders [aMuxOrder f.aMux f.raAddr, bMuxOrder f.bMux f.rbAddr, kMuxOrder f.kMux f.constant,
        dsOrder f.ds, opOrder f.op, rsOrder f.rs] (afterIc f s) =
      if f.rs.toNat < 4 then .next (afterAlu f s) else raise .illegalResultSelect (afterIc f s) := by
  rw [runOrders_mux hs, runOrders_cons_of_next exec_dsOrder_muxed hs, runOrders_cons_of_next exec_opOrder_inputs hs]
  by_cases h : f.rs.toNat < 4
  · rw [if_pos h, runOrders_cons_of_next (exec_rsOrder_result h) hs, runOrders_nil]
  · rw [if_neg h, runOrders_cons_of_raise (exec_rsOrder_illegal (by omega) _)]
    rfl

/-- Steps 5 to 7 (R332 to R334). -/
theorem runOrders_routing (hs : s.outcome = .running) :
    runOrders (yMuxOrder f.yMux :: ((if f.ic = 8 then [icOrder f.ic] else []) ++ (if f.ir then [.irLoad] else [])))
        (afterAlu f s) = .next (afterIrLoad f s) := by
  have h8 : f.ic = 8 ↔ f.ic.toNat = 8 := by
    generalize f.ic = v; revert v; decide
  have hroute : exec (yMuxOrder f.yMux) (afterAlu f s) =
      .next (((afterAlu f s).setAbus (abusRouted f s)).setDbus (dbusRouted f s)) := exec_yMuxOrder _ _
  have hpc : f.ic = 8 → ∀ u, exec (icOrder f.ic) u = .next (u.setPc u.dbus) := fun h u => by rw [h]; rfl
  rw [runOrders_cons_of_next hroute (by simpa using hs), runOrders_ite_append (fun h => hpc h _) (by simpa using hs),
    runOrders_ite fun _ => rfl]
  by_cases hpc : f.ic.toNat = 8 <;> cases hir : f.ir <;>
    simp only [h8, hpc, afterIrLoad, pcAfter, irAfter, hir] <;> rfl

/-- Step 8 (R242 to R255). -/
theorem runOrders_status (hs : s.outcome = .running) :
    runOrders ([selOrder f.sel, copOrder f.cop, .sscuUnread f.unread]
        ++ ((if f.srMacro then [.srMacroLatch] else []) ++ (if f.srMicro then [.srMicroLatch] else []))) (afterIrLoad f s) =
      if f.sel.toNat = 3 then raise .illegalStatusSelect (afterIrLoad f s) else .next (afterStatus f s) := by
  by_cases h : f.sel.toNat = 3
  · rw [if_pos h]
    exact runOrders_cons_of_raise (exec_selOrder_illegal h _)
  · have hsel : exec (selOrder f.sel) (afterIrLoad f s) = .next ((afterIrLoad f s).setSig
        { outputSignals f s with src := conditionSource f.sel.toNat s.uS s.mS }) := exec_selOrder_legal h _
    have hcop : exec (copOrder f.cop) ((afterIrLoad f s).setSig
        { outputSignals f s with src := conditionSource f.sel.toNat s.uS s.mS }) =
        .next ((afterIrLoad f s).setSig (statusSignals f s)) :=
      (exec_copOrder _ _).trans (latchCondition_conditionTest _ rfl)
    rw [if_neg h, List.cons_append, runOrders_cons_of_next hsel hs, List.cons_append, runOrders_cons_of_next hcop hs,
      List.cons_append, runOrders_cons_of_next (t := (afterIrLoad f s).setSig (statusSignals f s)) rfl hs,
      List.nil_append, runOrders_ite_append (t := ((afterIrLoad f s).setSig (statusSignals f s)).setMS (flagsNow f s))
        (fun _ => rfl) hs, runOrders_ite fun _ => rfl]
    cases hM : f.srMacro <;> cases hm : f.srMicro <;> simp only [afterStatus, hM, hm] <;> rfl

end Stages

/-! ## How a cycle ends -/

/-- What a fault leaves as it was: the configuration and the counters, `mic`, the stack and data memory (R402). -/
structure Frozen (s u : State) : Prop where
  config : SameConfig s u
  mic : u.mic = s.mic
  stack : u.stack = s.stack
  mem : u.mem = s.mem

theorem Frozen.refl (s : State) : Frozen s s := ⟨SameConfig.refl s, rfl, rfl, rfl⟩

theorem frozen_afterIc (f : Fields) (s : State) : Frozen s (afterIc f s) := ⟨⟨rfl, rfl, rfl, rfl, rfl⟩, rfl, rfl, rfl⟩

theorem frozen_afterIrLoad (f : Fields) (s : State) : Frozen s (afterIrLoad f s) :=
  ⟨⟨rfl, rfl, rfl, rfl, rfl⟩, rfl, rfl, rfl⟩

theorem frozen_afterStatus (f : Fields) (s : State) : Frozen s (afterStatus f s) :=
  ⟨⟨rfl, rfl, rfl, rfl, rfl⟩, rfl, rfl, rfl⟩

/-- Steps 3 to 8: the first of their three checks that fails ends the cycle (R323, R204, R242). -/
theorem runOrders_frontOrders {f : Fields} {s : State} (hs : s.outcome = .running) :
    runOrders f.frontOrders s =
      if f.ic.toNat ∉ [0, 1, 2, 4, 8] then raise .malformedIcField s
      else if 4 ≤ f.rs.toNat then raise .illegalResultSelect (afterIc f s)
      else if f.sel.toNat = 3 then raise .illegalStatusSelect (afterIrLoad f s)
      else .next (afterStatus f s) := by
  have hsplit : f.frontOrders =
      (if f.ic = 8 then [] else [icOrder f.ic]) ++ ([aMuxOrder f.aMux f.raAddr, bMuxOrder f.bMux f.rbAddr,
        kMuxOrder f.kMux f.constant, dsOrder f.ds, opOrder f.op, rsOrder f.rs] ++
      ((yMuxOrder f.yMux :: ((if f.ic = 8 then [icOrder f.ic] else []) ++ (if f.ir then [.irLoad] else []))) ++
      ([selOrder f.sel, copOrder f.cop, .sscuUnread f.unread] ++
        ((if f.srMacro then [.srMacroLatch] else []) ++ (if f.srMicro then [.srMicroLatch] else []))))) := by
    simp [Fields.frontOrders]
  rw [hsplit, runOrders_append _ _ hs, runOrders_icFirst hs]
  by_cases hic : f.ic.toNat ∈ [0, 1, 2, 4, 8]
  case neg => rw [if_neg hic, if_pos hic, andThen_raise]
  rw [if_pos hic, if_neg (not_not.mpr hic), andThen_running (by simpa using hs),
    runOrders_append _ _ (by simpa using hs), runOrders_alu hs]
  by_cases hrs : 4 ≤ f.rs.toNat
  case pos => rw [if_neg (by omega), if_pos hrs, andThen_raise]
  rw [if_pos (by omega), if_neg hrs, andThen_running (by simpa using hs), runOrders_append _ _ (by simpa using hs),
    runOrders_routing hs, andThen_running (by simpa using hs), runOrders_status hs]

/-- The micro-address that an opcode maps to: 0 for opcode 0, and its entry of the table otherwise (R336, R371). -/
inductive OpcodeMapsTo (prom : OpcodeTable) (op : BitVec 8) : Nat → Prop
  | zero (h : op = 0) : OpcodeMapsTo prom op 0
  | entry (h : op ≠ 0) (a : MicroAddr) (ha : prom.read op = some a) : OpcodeMapsTo prom op a.toNat

theorem OpcodeMapsTo.lt_microSpace {prom : OpcodeTable} {op : BitVec 8} {a : Nat} (h : OpcodeMapsTo prom op a) :
    a < Config.microSpace := by
  cases h with
  | zero => decide
  | entry _ a _ => exact a.isLt

/-- Step 9: the opcode in `IR` is mapped, or the cycle faults (R336). -/
theorem mapStage_cases (s : State) :
    mapStage s = raise .unmappedMacroOpcode s ∨
      ∃ a, OpcodeMapsTo s.prom (macroOpcode s.ir) a ∧ mapStage s = .next (s.setSig { s.sig with mapped := a }) := by
  rw [mapStage_eq]
  rcases mapOpcode_cases s with ⟨h0, h⟩ | ⟨_, _, h⟩ | ⟨a, h0, ha, h⟩
  · exact .inr ⟨0, .zero h0, h⟩
  · exact .inl h
  · exact .inr ⟨a.toNat, .entry h0 a ha, h⟩

/-- What the sequencer makes of the stack and `mic`, by `ci`, `cond` and the mapped address (R286 to R293). -/
inductive SequencerMove (ci : BitVec 4) (bar : BitVec 12) (cond : Bool) (mapped mic : Nat) (stack : List Nat) :
    List Nat → Nat → Prop
  | reset (h : ci = 0) : SequencerMove ci bar cond mapped mic stack [] 0
  | jmap (h : ci = 2) : SequencerMove ci bar cond mapped mic stack stack mapped
  | cont (h : ci = 14) : SequencerMove ci bar cond mapped mic stack stack (mic + 1)
  | push (h : ci = 4) (room : stack.length < Config.stackDepth) :
      SequencerMove ci bar cond mapped mic stack (stack ++ [bar.toNat]) (mic + 1)
  | pass (h : ci = 1 ∨ ci = 3 ∨ ci = 10 ∨ ci = 11) (hc : cond = true) :
      SequencerMove ci bar cond mapped mic stack stack (mic + 1)
  | jump (h : ci = 3) (hc : cond = false) : SequencerMove ci bar cond mapped mic stack stack bar.toNat
  | call (h : ci = 1) (hc : cond = false) (room : stack.length < Config.stackDepth) :
      SequencerMove ci bar cond mapped mic stack (stack ++ [mic + 1]) bar.toNat
  | ret (h : ci = 10) (hc : cond = false) (rest : List Nat) (v : Nat) (hv : stack = rest ++ [v]) :
      SequencerMove ci bar cond mapped mic stack rest v
  | popJump (h : ci = 11) (hc : cond = false) (rest : List Nat) (v : Nat) (hv : stack = rest ++ [v]) :
      SequencerMove ci bar cond mapped mic stack rest bar.toNat

/-- CONT goes on at `mic + 1` (R293). -/
theorem SequencerMove.eq_of_cont {bar : BitVec 12} {cond : Bool} {mapped mic m : Nat} {stack st : List Nat}
    (hmove : SequencerMove 14 bar cond mapped mic stack st m) : st = stack ∧ m = mic + 1 := by
  cases hmove with
  | cont => exact ⟨rfl, rfl⟩
  | reset h | jmap h | push h | pass h | jump h | call h | ret h | popJump h => exact absurd h (by decide)

/-- The answer of step 10: a fault with nothing changed, or a move of the sequencer. -/
def SequencerAnswers (ci : BitVec 4) (bar : BitVec 12) (ccen : Bool) (s : State) (o : Result) : Prop :=
  (∃ k, o = raise k s) ∨
    ∃ st m, SequencerMove ci bar (condHolds ccen s) s.sig.mapped s.mic s.stack st m ∧
      o = .next ((s.setStack st).setMic m)

section Sequencer

variable {ci : BitVec 4} {bar : BitVec 12} {ccen : Bool} {s : State}

/-- A conditional instruction goes on at `mic + 1` where `cond` holds (R282, R285). -/
theorem SequencerAnswers.conditional {o : Result} (hci : ci = 1 ∨ ci = 3 ∨ ci = 10 ∨ ci = 11)
    (ho : condHolds ccen s = false → SequencerAnswers ci bar ccen s o) :
    SequencerAnswers ci bar ccen s (if condHolds ccen s then goOn s else o) := by
  cases hc : condHolds ccen s
  case true => exact .inr ⟨_, _, .pass hci hc, rfl⟩
  case false => exact ho hc

theorem SequencerAnswers.pushAndGo {v target : Nat}
    (hmove : s.stack.length < Config.stackDepth →
      SequencerMove ci bar (condHolds ccen s) s.sig.mapped s.mic s.stack (s.stack ++ [v]) target) :
    SequencerAnswers ci bar ccen s (pushAndGo v target s) := by
  rcases pushAndGo_cases v target s with ⟨_, h⟩ | ⟨room, h⟩
  · exact .inl ⟨_, h⟩
  · exact .inr ⟨_, _, hmove room, h⟩

theorem SequencerAnswers.popAndGo {target : Nat → Nat}
    (hmove : ∀ rest v, s.stack = rest ++ [v] →
      SequencerMove ci bar (condHolds ccen s) s.sig.mapped s.mic s.stack rest (target v)) :
    SequencerAnswers ci bar ccen s (popAndGo target s) := by
  rcases popAndGo_cases target s with ⟨_, h⟩ | ⟨rest, v, hv, h⟩
  · exact .inl ⟨_, h⟩
  · exact .inr ⟨_, _, hmove rest v hv, h⟩

end Sequencer

/-- Step 10: the sequencer moves on, or faults with `mic` and the stack as they were (R282 to R296). -/
theorem exec_ciOrder_answers (ci : BitVec 4) (bar : BitVec 12) (ccen : Bool) (s : State) :
    SequencerAnswers ci bar ccen s (exec (ciOrder ci bar ccen) s) := by
  have hci : ci = 0 ∨ ci = 1 ∨ ci = 2 ∨ ci = 3 ∨ ci = 4 ∨ ci = 10 ∨ ci = 11 ∨ ci = 14 ∨
      ci ∈ ([5, 6, 7, 8, 9, 12, 13, 15] : List (BitVec 4)) := by
    revert ci; decide
  rcases hci with rfl | rfl | rfl | rfl | rfl | rfl | rfl | rfl | hinvalid
  · exact .inr ⟨_, _, .reset rfl, rfl⟩
  · exact .conditional (.inl rfl) fun hc => .pushAndGo (.call rfl hc)
  · exact .inr ⟨_, _, .jmap rfl, rfl⟩
  · exact .conditional (.inr (.inl rfl)) fun hc => .inr ⟨_, _, .jump rfl hc, rfl⟩
  · exact .pushAndGo (.push rfl)
  · exact .conditional (.inr (.inr (.inl rfl))) fun hc => .popAndGo (.ret rfl hc)
  · exact .conditional (.inr (.inr (.inr rfl))) fun hc => .popAndGo (.popJump rfl hc)
  · exact .inr ⟨_, _, .cont rfl, rfl⟩
  · refine .inl ⟨.invalidControllerInstruction, ?_⟩
    simp only [List.mem_cons, List.not_mem_nil, or_false] at hinvalid
    rcases hinvalid with rfl | rfl | rfl | rfl | rfl | rfl | rfl | rfl <;> rfl

/-- The state after a completed cycle of the fields `f` from `s` in which the sequencer leaves `st` and `m`. -/
def afterCycle (f : Fields) (s : State) (st : List Nat) (m : Nat) : State where
  regs := regsAfter f s
  acc := accAfter f s
  uS := if f.srMicro then flagsNow f s else s.uS
  mS := if f.srMacro then flagsNow f s else s.mS
  ir := irAfter f s
  pc := pcAfter f s
  abus := abusRouted f s
  dbus := if f.mwe then dbusRouted f s else s.mem.read (abusRouted f s)
  mic := m
  stack := st
  mem := if f.mwe then s.mem.write (abusRouted f s) (dbusRouted f s) else s.mem
  store := s.store
  prom := s.prom
  cycles := s.cycles + 1
  outcome := s.outcome
  stepLimit := s.stepLimit
  calls := s.calls
  sig := Signals.rest

/-- The state after step 9, with the mapped address (R336). -/
def afterMapping (f : Fields) (s : State) (a : Nat) : State :=
  (afterStatus f s).setSig { statusSignals f s with mapped := a }

@[simp] theorem afterMapping_outcome (f : Fields) (s : State) (a : Nat) :
    (afterMapping f s a).outcome = s.outcome := rfl

theorem frozen_afterMapping (f : Fields) (s : State) (a : Nat) : Frozen s (afterMapping f s a) :=
  ⟨⟨rfl, rfl, rfl, rfl, rfl⟩, rfl, rfl, rfl⟩

theorem mapStage_afterStatus (f : Fields) (s : State) :
    mapStage (afterStatus f s) = raise .unmappedMacroOpcode (afterStatus f s) ∨
      ∃ a, OpcodeMapsTo s.prom (macroOpcode (irAfter f s)) a ∧
        mapStage (afterStatus f s) = .next (afterMapping f s a) :=
  mapStage_cases _

/-- Steps 10 to 12 (R337 to R339). -/
theorem backOrders_afterMapping (f : Fields) {s : State} (hs : s.outcome = .running) (a : Nat) :
    (∃ k, andThen (runOrders f.backOrders (afterMapping f s a)) endCycle = raise k (afterMapping f s a)) ∨
      ∃ st m, SequencerMove f.ci f.bar (condOf f s) a s.mic s.stack st m ∧
        andThen (runOrders f.backOrders (afterMapping f s a)) endCycle = .next (afterCycle f s st m) := by
  unfold Fields.backOrders
  rcases exec_ciOrder_answers f.ci f.bar f.ccen (afterMapping f s a) with ⟨k, h⟩ | ⟨st, m, hmove, h⟩
  · exact .inl ⟨k, by rw [runOrders_cons_of_raise h, andThen_raise]⟩
  · have hfrozen := frozen_afterMapping f s a
    have hcond : condHolds f.ccen (afterMapping f s a) = condOf f s := rfl
    have hmapped : (afterMapping f s a).sig.mapped = a := rfl
    rw [hcond, hmapped, hfrozen.mic, hfrozen.stack] at hmove
    refine .inr ⟨st, m, hmove, ?_⟩
    rw [runOrders_cons_of_next h (by simpa using hs), runOrders_cons_of_next (exec_mweOrder _ _) (by simpa using hs),
      runOrders_nil, andThen_running (by simpa using hs)]
    rfl

/-- How steps 3 to 12 end: with a fault over a state that keeps what R402 freezes, or with the cycle complete. -/
inductive CycleEnd (f : Fields) (s : State) : Result → Prop
  | fault (k : Fault) (u : State) (hu : Frozen s u) : CycleEnd f s (raise k u)
  | complete (legal : reachesMapping f) (a : Nat) (ha : OpcodeMapsTo s.prom (macroOpcode (irAfter f s)) a)
      (st : List Nat) (m : Nat) (hm : SequencerMove f.ci f.bar (condOf f s) a s.mic s.stack st m) :
      CycleEnd f s (.next (afterCycle f s st m))

theorem runFields_end {f : Fields} {s : State} (hs : s.outcome = .running) : CycleEnd f s (runFields f s) := by
  unfold runFields
  rw [runOrders_frontOrders hs]
  by_cases hic : f.ic.toNat ∈ [0, 1, 2, 4, 8]
  case neg =>
    rw [if_pos hic, andThen_raise]
    exact .fault _ _ (.refl s)
  by_cases hrs : 4 ≤ f.rs.toNat
  case pos =>
    rw [if_neg (not_not.mpr hic), if_pos hrs, andThen_raise]
    exact .fault _ _ (frozen_afterIc f s)
  by_cases hsel : f.sel.toNat = 3
  case pos =>
    rw [if_neg (not_not.mpr hic), if_neg hrs, if_pos hsel, andThen_raise]
    exact .fault _ _ (frozen_afterIrLoad f s)
  rw [if_neg (not_not.mpr hic), if_neg hrs, if_neg hsel, andThen_running (by simpa using hs)]
  rcases mapStage_afterStatus f s with h | ⟨a, ha, h⟩
  · rw [h, andThen_raise]
    exact .fault _ _ (frozen_afterStatus f s)
  rw [h, andThen_running (by simpa using hs)]
  rcases backOrders_afterMapping f hs a with ⟨k, h⟩ | ⟨st, m, hm, h⟩
  · rw [h]
    exact .fault _ _ (frozen_afterMapping f s a)
  · rw [h]
    exact .complete ⟨hic, by omega, hsel⟩ a ha st m hm

/-! ## How a step ends -/

/-- The five ways in which a step can answer a next state (R43, R322, R401, R455, R456). -/
inductive StepEnd (s : State) : State → Prop
  | rest (h : s.outcome = .halted ∨ s.outcome = .stepLimitExceeded) : StepEnd s s
  | ceiling (h : s.outcome = .running) (hl : s.stepLimit ≤ s.calls) : StepEnd s (s.setOutcome .stepLimitExceeded)
  | halt (h : goesOn s) (hw : fetchWord s = some Config.haltWord) :
      StepEnd s ((s.setCalls (s.calls + 1)).setOutcome .halted)
  | fault (h : goesOn s) (k : Fault) (u : State) (hu : Frozen (s.setCalls (s.calls + 1)) u) :
      StepEnd s ((u.setOutcome (.faulted k)).setSig Signals.rest)
  | complete (f : Fields) (hf : runsFields s f) (legal : reachesMapping f) (a : Nat)
      (ha : OpcodeMapsTo s.prom (macroOpcode (irAfter f s)) a) (st : List Nat) (m : Nat)
      (hm : SequencerMove f.ci f.bar (condOf f s) a s.mic s.stack st m) :
      StepEnd s ((afterCycle f s st m).setCalls (s.calls + 1))

theorem cycle_of_unmapped {s : State} (h : fetchWord s = none) : cycle s = raise .unmappedMicroAddress s := by
  simp only [cycle, h]

theorem cycle_of_haltWord {s : State} (h : fetchWord s = some Config.haltWord) :
    cycle s = .next (s.setOutcome .halted) := by
  simp only [cycle, h, decodeWord_haltWord]
  rfl

theorem cycle_of_fields {s : State} {w : ControlWord} {f : Fields} (h : fetchWord s = some w)
    (hd : decodeWord w = .fields f) : cycle s = runFields f s := by
  simp only [cycle, h, hd]

/-- A counted call of `cycle()` ends in one of the three last ways (R320 to R322). -/
theorem stepEnd_of_cycle {s t : State} (hgo : goesOn s) (h : cycle (s.setCalls (s.calls + 1)) = .next t) :
    StepEnd s t := by
  have hfetch : fetchWord (s.setCalls (s.calls + 1)) = fetchWord s := rfl
  cases hw : fetchWord s with
  | none =>
    cases (cycle_of_unmapped (hfetch.trans hw)).symm.trans h
    exact .fault hgo _ _ (.refl _)
  | some w =>
    rcases decodeWord_cases w with ⟨rfl, hd⟩ | ⟨_, hd⟩
    · cases (cycle_of_haltWord (hfetch.trans hw)).symm.trans h
      exact .halt hgo hw
    · have hend := runFields_end (f := extractFields w) (s := s.setCalls (s.calls + 1)) hgo.1
      rw [← cycle_of_fields (hfetch.trans hw) hd, h] at hend
      cases hend with
      | fault k u hu => exact .fault hgo k u hu
      | complete legal a ha st m hm => exact .complete _ ⟨hgo, by rw [hw, Option.map_some, hd]⟩ legal a ha st m hm

/-- A step that answers a next state ends in one of the five ways. -/
theorem stepEnd_of_step {s t : State} (h : step s = .next t) : StepEnd s t := by
  cases ho : s.outcome with
  | halted =>
    cases (step_halted ho).symm.trans h
    exact .rest (.inl ho)
  | stepLimitExceeded =>
    cases (step_exceeded ho).symm.trans h
    exact .rest (.inr ho)
  | faulted k => cases (step_faulted ho).symm.trans h
  | running =>
    by_cases hl : s.stepLimit ≤ s.calls
    · cases (step_ceiling ho hl).symm.trans h
      exact .ceiling ho hl
    · have hgo : goesOn s := ⟨ho, by omega⟩
      exact stepEnd_of_cycle hgo ((step_running ho hgo.2).symm.trans h)

/-- A machine that goes on has not ended. -/
theorem goesOn.not_rest {s : State} (h : goesOn s) : ¬ (s.outcome = .halted ∨ s.outcome = .stepLimitExceeded) := by
  rw [h.1]
  simp

/-- The shape of a completed cycle. -/
theorem Completes.shape {s t : State} {f : Fields} (h : Completes s t f) :
    reachesMapping f ∧ ∃ a st m, OpcodeMapsTo s.prom (macroOpcode (irAfter f s)) a ∧
      SequencerMove f.ci f.bar (condOf f s) a s.mic s.stack st m ∧
      t = (afterCycle f s st m).setCalls (s.calls + 1) := by
  obtain ⟨⟨hgo, hfetch⟩, hstep, hrun⟩ := h
  cases stepEnd_of_step hstep with
  | rest ho => exact absurd ho hgo.not_rest
  | ceiling => cases hrun
  | halt => cases hrun
  | fault => cases hrun
  | complete g hg legal a ha st m hm =>
    obtain rfl : g = f := by
      have := hg.2.symm.trans hfetch
      simpa using this
    exact ⟨legal, a, st, m, ha, hm, rfl⟩

/-- What a step leaves of the configuration (R46). -/
theorem StepEnd.config {s t : State} (h : StepEnd s t) :
    t.store = s.store ∧ t.prom = s.prom ∧ t.stepLimit = s.stepLimit := by
  cases h with
  | rest => exact ⟨rfl, rfl, rfl⟩
  | ceiling => exact ⟨rfl, rfl, rfl⟩
  | halt => exact ⟨rfl, rfl, rfl⟩
  | fault _ _ _ hu => exact ⟨hu.config.store, hu.config.prom, hu.config.stepLimit⟩
  | complete => exact ⟨rfl, rfl, rfl⟩

end Sys2Proof.Machine
end

section
/-! SUPPORT. The statements on the state: the invariant, the run, the values of a completed cycle, the opcode rows and the
host's image. -/

namespace Sys2Proof.Machine

open Sys2Proof.Reference

/-! ## The invariant -/

/-- A fetch that finds a word is at an address below 4096 (R78, R321). -/
theorem mic_lt_of_fetchWord {s : State} {w : ControlWord} (h : fetchWord s = some w) : s.mic < Config.microSpace := by
  by_contra hge
  have hnone : fetchWord s = none := ControlStore.read_above _ (by omega)
  cases hnone.symm.trans h

theorem mic_lt_of_runsFields {s : State} {f : Fields} (h : runsFields s f) : s.mic < Config.microSpace := by
  obtain ⟨w, hw, _⟩ := Option.map_eq_some_iff.mp h.2
  exact mic_lt_of_fetchWord hw

/-- A stack of at most five micro-addresses of 0..4096 (R41, R48). -/
def StackBounds (st : List Nat) : Prop := st.length ≤ Config.stackDepth ∧ ∀ v ∈ st, v ≤ Config.microSpace

theorem stackOk_iff_stackBounds (s : State) : stackOk s ↔ StackBounds s.stack := Iff.rfl

theorem StackBounds.push {st : List Nat} (h : StackBounds st) {v : Nat} (room : st.length < Config.stackDepth)
    (hv : v ≤ Config.microSpace) : StackBounds (st ++ [v]) := by
  refine ⟨by simpa using room, fun x hx => ?_⟩
  rcases List.mem_append.mp hx with hx | hx
  · exact h.2 x hx
  · exact List.mem_singleton.mp hx ▸ hv

theorem StackBounds.pop {rest : List Nat} {v : Nat} (h : StackBounds (rest ++ [v])) :
    StackBounds rest ∧ v ≤ Config.microSpace := by
  obtain ⟨hlen, hmem⟩ := h
  rw [List.length_append, List.length_singleton] at hlen
  exact ⟨⟨by omega, fun x hx => hmem x (List.mem_append_left _ hx)⟩, hmem v (by simp)⟩

/-- Every move of the sequencer stays within the bounds, when it starts at a control-store address. -/
theorem SequencerMove.bounds {ci : BitVec 4} {bar : BitVec 12} {cond : Bool} {mapped mic : Nat} {stack st : List Nat}
    {m : Nat} (h : SequencerMove ci bar cond mapped mic stack st m) (hmic : mic < Config.microSpace)
    (hmapped : mapped < Config.microSpace) (hstack : StackBounds stack) :
    StackBounds st ∧ m ≤ Config.microSpace := by
  have hbar : bar.toNat < Config.microSpace := bar.isLt
  cases h with
  | reset => exact ⟨⟨by decide, by simp⟩, by decide⟩
  | jmap => exact ⟨hstack, hmapped.le⟩
  | cont => exact ⟨hstack, hmic⟩
  | push _ room => exact ⟨hstack.push room hbar.le, hmic⟩
  | pass => exact ⟨hstack, hmic⟩
  | jump => exact ⟨hstack, hbar.le⟩
  | call _ _ room => exact ⟨hstack.push room hmic, hbar.le⟩
  | ret _ _ rest v hv =>
    subst hv
    exact hstack.pop
  | popJump _ _ rest v hv =>
    subst hv
    exact ⟨hstack.pop.1, hbar.le⟩

theorem wf_afterCycle_mem (f : Fields) {s : State} (h : s.mem.wf = true) (st : List Nat) (m : Nat) :
    (afterCycle f s st m).mem.wf = true := by
  unfold afterCycle
  dsimp only
  split
  · exact Memory.wf_write h _ _
  · exact h

/-- A running machine has completed every call it made. -/
theorem countersOk_iff_of_running {s : State} (h : s.outcome = .running) :
    countersOk s ↔ s.calls ≤ s.stepLimit ∧ s.cycles = s.calls := by
  simp only [countersOk, h]

/-- At its ceiling a machine has completed `STEP_LIMIT` cycles (decision D11). -/
theorem StateOk.cycles_eq_stepLimit {s : State} (hok : StateOk s) (h : s.outcome = .stepLimitExceeded) :
    s.cycles = s.stepLimit := by
  have hcounters := hok.counters
  simp only [countersOk, h] at hcounters
  obtain ⟨_, hcycles, hcalls⟩ := hcounters
  exact hcycles.trans hcalls

/-- The invariant is kept by each of the five ends of a step. -/
theorem StateOk.of_stepEnd {s t : State} (hok : StateOk s) (h : StepEnd s t) : StateOk t := by
  obtain ⟨⟨hmem, hstore, hprom⟩, hstack, hmic, hrest, hcounters⟩ := hok
  cases h with
  | rest => exact ⟨⟨hmem, hstore, hprom⟩, hstack, hmic, hrest, hcounters⟩
  | ceiling hrun hl =>
    obtain ⟨hcalls, hcycles⟩ := (countersOk_iff_of_running hrun).mp hcounters
    exact ⟨⟨hmem, hstore, hprom⟩, hstack, hmic, hrest, hcalls, hcycles, le_antisymm hcalls hl⟩
  | halt hgo =>
    obtain ⟨_, hcycles⟩ := (countersOk_iff_of_running hgo.1).mp hcounters
    exact ⟨⟨hmem, hstore, hprom⟩, hstack, hmic, hrest, hgo.2, congrArg (· + 1) hcycles⟩
  | fault hgo k u hu =>
    obtain ⟨_, hcycles⟩ := (countersOk_iff_of_running hgo.1).mp hcounters
    obtain ⟨⟨ustore, uprom, ulimit, ucalls, ucycles⟩, umic, ustack, umem⟩ := hu
    refine ⟨⟨(congrArg Memory.wf umem).trans hmem, (congrArg ControlStore.wf ustore).trans hstore,
      (congrArg OpcodeTable.wf uprom).trans hprom⟩, (stackOk_iff_stackBounds _).mpr (ustack ▸ hstack), umic.trans_le hmic, rfl,
      ?calls, ?cut⟩
    case calls => exact ucalls.trans_le (ulimit.symm ▸ hgo.2)
    case cut => exact (congrArg (· + 1) (ucycles.trans hcycles)).trans ucalls.symm
  | complete f hf legal a ha st m hm =>
    obtain ⟨_, hcycles⟩ := (countersOk_iff_of_running hf.1.1).mp hcounters
    obtain ⟨hst, hm⟩ := hm.bounds (mic_lt_of_runsFields hf) ha.lt_microSpace hstack
    exact ⟨⟨wf_afterCycle_mem f hmem st m, hstore, hprom⟩, hst, hm, rfl,
      (countersOk_iff_of_running (s := (afterCycle f s st m).setCalls (s.calls + 1)) hf.1.1).mpr
        ⟨hf.1.2, congrArg (· + 1) hcycles⟩⟩

/-! ## The run -/

/-- A property that every step of a running machine keeps holds where a run ends. -/
theorem runSteps_induction {P : State → Prop} (hstep : ∀ u t, P u → u.outcome = .running → step u = .next t → P t)
    (n : Nat) {s : State} (hs : P s) : P (runSteps n s) := by
  induction n generalizing s with
  | zero => exact hs
  | succ n ih =>
    unfold runSteps
    split
    next hrun =>
      split
      next t ht => exact ih (hstep s t hs hrun ht)
      next => exact hs
    next => exact hs

/-- A run that halts stands at an address of the sentinel (R322). -/
def HaltsAtSentinel (store : ControlStore) (u : State) : Prop :=
  u.store = store ∧ (u.outcome = .halted → store.read u.mic = some Config.haltWord)

theorem run_haltsAtSentinel (s : State) (hs : s.outcome = .running) : HaltsAtSentinel s.store (run s) := by
  refine runSteps_induction ?_ _ ⟨rfl, by simp [hs]⟩
  rintro u t ⟨hstore, hhalt⟩ hrun h
  have hend := stepEnd_of_step h
  obtain ⟨hkept, _, _⟩ := hend.config
  refine ⟨hkept.trans hstore, fun ht => ?_⟩
  cases hend with
  | rest => exact hhalt ht
  | ceiling => cases ht
  | halt _ hw => exact hstore ▸ hw
  | fault => cases ht
  | complete => cases hrun.symm.trans ht

/-- The invariant and the step limit hold to the end of a run. -/
theorem run_keeps_stateOk {s : State} (hok : StateOk s) : StateOk (run s) ∧ (run s).stepLimit = s.stepLimit := by
  refine runSteps_induction (P := fun u => StateOk u ∧ u.stepLimit = s.stepLimit) ?_ _ ⟨hok, rfl⟩
  rintro u t ⟨hu, hlimit⟩ _ h
  have hend := stepEnd_of_step h
  obtain ⟨_, _, hkept⟩ := hend.config
  exact ⟨hu.of_stepEnd hend, hkept.trans hlimit⟩

/-! ## Where the values of a completed cycle come from -/

section Routing

variable {f : Fields} {s : State}

/-- With bit 0 of `y_mux` clear the address bus keeps what step 3 left (R325, R332). -/
theorem abusRouted_of_clear (h : f.yMux.getLsbD 0 = false) :
    abusRouted f s = if f.ic.toNat = 1 then s.pc else s.abus := if_neg (by rw [h]; nofun)

/-- With bit 1 of `y_mux` clear the data bus keeps what step 3 left (R327, R332). -/
theorem dbusRouted_of_clear (h : f.yMux.getLsbD 1 = false) :
    dbusRouted f s = if f.ic.toNat = 4 then s.pc else s.dbus := if_neg (by rw [h]; nofun)

theorem abusRouted_of_set (h : f.yMux.getLsbD 0 = true) : abusRouted f s = outputY f s := if_pos h

theorem dbusRouted_of_set (h : f.yMux.getLsbD 1 = true) : dbusRouted f s = outputY f s := if_pos h

end Routing

section MemoryStage

variable {f : Fields} (s : State) (st : List Nat) (m : Nat)

/-- With `mwe` = 1 a cycle writes the routed data bus at the routed address and keeps the data bus (R338). -/
theorem afterCycle_write (h : f.mwe = true) :
    (afterCycle f s st m).mem = s.mem.write (abusRouted f s) (dbusRouted f s) ∧
      (afterCycle f s st m).dbus = dbusRouted f s := ⟨if_pos h, if_pos h⟩

/-- With `mwe` = 0 a cycle reads the word at the routed address and keeps memory (R338, decision D23). -/
theorem afterCycle_read (h : f.mwe = false) :
    (afterCycle f s st m).mem = s.mem ∧ (afterCycle f s st m).dbus = s.mem.read (abusRouted f s) :=
  ⟨if_neg (by rw [h]; nofun), if_neg (by rw [h]; nofun)⟩

end MemoryStage

/-- Only the register of index B can change (R202, R203). -/
theorem reg_of_regs_eq_regsAfter {f : Fields} {s t : State} (ht : t.regs = regsAfter f s) {i : RegIx}
    (hi : i ≠ cycleIndexB f s) : t.reg i = s.reg i := by
  have hother := State.reg_setReg_other s (resultF f s) hi
  unfold regsAfter at ht
  split at ht
  · rw [← hother, State.reg, State.reg]
    simp only [ht]
  · simp only [State.reg, ht]

/-! ## Opcode rows -/

/-- The row of a 16-bit word presents that word (R370). -/
theorem exec_of_encode_macroWord {i : Instr} {w : Word} (h : encode i = .macroWord w) (s : State) :
    exec i s = presentMacro w s := by
  cases i <;> cases h <;> rfl

/-! ## The host's image -/

/-- The writes of an image, one after the other. -/
def Memory.writeAll (image : List (Word × Word)) (m : Memory) : Memory :=
  image.foldl (fun m p => m.write p.1 p.2) m

/-- Loading an image writes its words and changes nothing else (R396). -/
theorem loadImage_eq (image : List (Word × Word)) (s : State) :
    loadImage image s = s.setMem (Memory.writeAll image s.mem) := by
  induction image generalizing s with
  | nil => rfl
  | cons p rest ih => exact ih _

theorem Memory.wf_writeAll (image : List (Word × Word)) {m : Memory} (h : m.wf = true) :
    (Memory.writeAll image m).wf = true := by
  induction image generalizing m with
  | nil => exact h
  | cons p rest ih => exact ih (Memory.wf_write h _ _)

/-- An address that the image does not list reads as before. -/
theorem Memory.read_writeAll_of_unlisted {image : List (Word × Word)} (m : Memory) {a : Word}
    (h : ∀ p ∈ image, p.1 ≠ a) : (Memory.writeAll image m).read a = m.read a := by
  induction image generalizing m with
  | nil => rfl
  | cons p rest ih =>
    obtain ⟨hp, hrest⟩ := List.forall_mem_cons.mp h
    exact (ih _ hrest).trans (Memory.read_write_other m _ hp.symm)

/-- The last word that an image lists for an address stands (log 18). -/
theorem Memory.read_writeAll_last (before : List (Word × Word)) {after : List (Word × Word)} {m : Memory} {a : Word}
    (v : Word) (hm : m.wf = true) (h : ∀ p ∈ after, p.1 ≠ a) :
    (Memory.writeAll (before ++ (a, v) :: after) m).read a = v := by
  have hsplit : Memory.writeAll (before ++ (a, v) :: after) m =
      Memory.writeAll after ((Memory.writeAll before m).write a v) := List.foldl_append
  rw [hsplit, Memory.read_writeAll_of_unlisted _ h, Memory.read_write_same (Memory.wf_writeAll before hm)]

end Sys2Proof.Machine

namespace Sys2Proof

open Machine Reference

/-! ## The statements -/

/-- Settles O10, by the five ends of a step: only a completed cycle moves `mic` and the stack or writes memory. -/
theorem stepKeepsTheInvariant : Obligations.StepKeepsTheInvariant :=
  fun _ _ hok h => hok.of_stepEnd (stepEnd_of_step h)

/-- Settles O13: none of the five ends of a step writes the configuration. -/
theorem configurationIsReadOnly : Obligations.ConfigurationIsReadOnly :=
  fun _ _ h => (stepEnd_of_step h).config

/-- Settles O20: the call is counted at its start, the cycle at its end. -/
theorem completedCycleCounts : Obligations.CompletedCycleCounts := by
  intro s t hgo h
  cases stepEnd_of_step h with
  | rest ho => exact absurd ho hgo.not_rest
  | ceiling _ hl => exact absurd hgo.2 (by omega)
  | halt => exact ⟨rfl, nofun, fun _ => rfl⟩
  | fault _ k u hu => exact ⟨hu.config.calls, nofun, fun _ => hu.config.cycles⟩
  | complete => exact ⟨rfl, fun _ => rfl, fun hne => absurd hgo.1 hne⟩

/-- Settles O22: the state in which the fault is raised has kept all that R402 freezes. -/
theorem faultFreezesTheState : Obligations.FaultFreezesTheState := by
  intro s t k hgo h hk
  cases stepEnd_of_step h with
  | rest ho => exact absurd ho hgo.not_rest
  | ceiling => cases hk
  | halt => cases hk
  | fault _ k' u hu =>
    cases hk
    obtain ⟨⟨hstore, hprom, hlimit, _, hcycles⟩, hmic, hstack, hmem⟩ := hu
    exact ⟨by rw [faultRecord_raise, hmic]; rfl, hmic, hstack, hmem, hcycles, hstore, hprom, hlimit⟩
  | complete => cases hgo.1.symm.trans hk

/-- Settles O17, from the register file, the accumulator and `IR` of a completed cycle. -/
theorem completedCycleRegisters : Obligations.CompletedCycleRegisters := by
  intro s t f h
  obtain ⟨_, a, st, m, _, _, rfl⟩ := h.shape
  refine ⟨fun i hi => ?other, fun h2 h3 => ?file, fun h1 => if_neg h1, fun hir => ?ir⟩
  case other => exact reg_of_regs_eq_regsAfter rfl hi
  case file => exact if_neg (not_or.mpr ⟨h2, h3⟩)
  case ir => exact if_neg (by simp [hir])

/-- Settles O18, from `PC` after step 6 and the address bus after step 5. -/
theorem completedCyclePcAndAddressBus : Obligations.CompletedCyclePcAndAddressBus := by
  intro s t f h
  obtain ⟨_, a, st, m, _, _, rfl⟩ := h.shape
  refine ⟨fun h2 h8 => ?keep, fun h2 => ?inc, fun h8 hy => ?load, fun hy h1 => ?abusPc, fun hy h1 => ?abus⟩
  case keep => exact (if_neg h2).trans (if_neg h8)
  case inc =>
    have hpc : pcAfter f s = s.pc + 1 := if_pos h2
    change (pcAfter f s).toNat = _
    rw [hpc, BitVec.toNat_add]
    rfl
  case load =>
    change pcAfter f s = s.dbus
    rw [pcAfter, if_neg (by omega), if_pos h8, dbusRouted_of_clear hy, if_neg (by omega)]
  case abusPc =>
    exact (abusRouted_of_clear hy).trans (if_pos h1)
  case abus =>
    exact (abusRouted_of_clear hy).trans (if_neg h1)

/-- Settles O19: the access is at the routed address, with the routed data where it writes. -/
theorem completedCycleMemory : Obligations.CompletedCycleMemory := by
  intro s t f hwf h
  obtain ⟨_, a, st, m, _, _, rfl⟩ := h.shape
  have hdbus : f.mwe = true → (afterCycle f s st m).dbus = dbusRouted f s := fun hw => (afterCycle_write s st m hw).2
  refine ⟨fun hw => ?write, fun hr => ?read, fun hw hy h4 => ?old, fun hw hy h4 => ?pc, fun hw hy => ?routed,
    fun hw hy => ?both⟩
  case write =>
    obtain ⟨hmem, hd⟩ := afterCycle_write s st m hw
    refine ⟨?_, fun a ha => ?_⟩
    · exact (congrArg (Memory.read · (abusRouted f s)) hmem).trans ((Memory.read_write_same hwf _ _).trans hd.symm)
    · exact (congrArg (Memory.read · a) hmem).trans (Memory.read_write_other _ _ ha)
  case read =>
    obtain ⟨hmem, hd⟩ := afterCycle_read s st m hr
    exact ⟨fun a => congrArg (Memory.read · a) hmem, hd⟩
  case old => exact (hdbus hw).trans ((dbusRouted_of_clear hy).trans (if_neg h4))
  case pc => exact (hdbus hw).trans ((dbusRouted_of_clear hy).trans (if_pos h4))
  case routed => exact (hdbus hw).trans (dbusRouted_of_set hy)
  case both =>
    have habus : abusRouted f s = outputY f s := abusRouted_of_set (by rw [hy]; decide)
    exact (hdbus hw).trans ((dbusRouted_of_set (by rw [hy]; decide)).trans habus.symm)

/-- Settles O54: the sequencer does not wrap, and no address from 4096 on has an entry. -/
theorem sequentialAddressDoesNotWrap : Obligations.SequentialAddressDoesNotWrap := by
  intro s t f h hci hmic
  have hrun := h.going
  obtain ⟨_, a, st, m, _, hmove, rfl⟩ := h.shape
  rw [hci, hmic] at hmove
  obtain ⟨_, rfl⟩ := hmove.eq_of_cont
  refine ⟨rfl, fun hcalls => ?_⟩
  rw [step_running hrun hcalls, cycle_of_unmapped (ControlStore.read_above _ (le_refl _))]
  exact ⟨_, rfl, rfl, rfl⟩

/-- Settles O45: each of the 21 rows presents its word, and the opcode mapping does the rest. -/
theorem macroWordsAreMapped : Obligations.MacroWordsAreMapped := by
  intro i w s he
  rw [exec_of_encode_macroWord he]
  rcases mapOpcode_cases (s.setIr w) with ⟨h0, h⟩ | ⟨h0, hnone, h⟩ | ⟨b, h0, hb, h⟩
  · exact ⟨fun _ => h, fun _ hne => absurd h0 hne⟩
  · exact ⟨fun hz => absurd hz h0, fun a _ ha => by cases hnone.symm.trans ha⟩
  · refine ⟨fun hz => absurd hz h0, fun a _ ha => ?_⟩
    cases hb.symm.trans ha
    exact h

/-- Settles O59: the halting step fetched the sentinel at its own `mic`, and the invariant holds to the end of a run. -/
theorem snapshotAndResult : Obligations.SnapshotAndResult := by
  refine ⟨fun s => ⟨fun _ => rfl, rfl, rfl, rfl, rfl, rfl, rfl, rfl, rfl, rfl, rfl, rfl⟩, fun _ => rfl, ?halted,
    ?ceiling⟩
  case halted =>
    intro s hs hhalted
    obtain ⟨_, hsentinel⟩ := run_haltsAtSentinel s hs
    exact hsentinel hhalted
  case ceiling =>
    intro s hok hs hceil
    obtain ⟨hend, hlimit⟩ := run_keeps_stateOk hok
    exact (hend.cycles_eq_stepLimit hceil).trans hlimit

/-- Settles O57: an image is a fold of writes over memory, and the three loads write different fields. -/
theorem hostLoadsCommute : Obligations.HostLoadsCommute := by
  intro regs acc uS mS image s
  refine ⟨⟨rfl, fun _ => rfl⟩, rfl, ?memOnly, fun hwf => ⟨?wf, fun a ha => ?unlisted, ?last⟩, rfl, ?commuteRegs,
    ?commuteStatus⟩
  case memOnly => rw [loadImage_eq]; rfl
  case wf =>
    rw [loadImage_eq]
    exact Memory.wf_writeAll image hwf
  case unlisted =>
    rw [loadImage_eq]
    exact Memory.read_writeAll_of_unlisted _ ha
  case last =>
    rintro before after a v rfl hafter
    rw [loadImage_eq]
    exact Memory.read_writeAll_last before v hwf hafter
  case commuteRegs => rw [loadImage_eq, loadImage_eq]; rfl
  case commuteStatus => rw [loadImage_eq, loadImage_eq]; rfl

/-- Settles O11: the empty maps are canonical, and no call has been made. -/
theorem resetMeetsTheInvariant : Obligations.ResetMeetsTheInvariant where
  maps := reset_maps_wf
  stack := ⟨by decide, by simp [State.reset]⟩
  mic := by decide
  rest := rfl
  counters := (countersOk_iff_of_running rfl).mpr ⟨by decide, rfl⟩

/-- Settles O14: what a step answers in each of the three ended outcomes. -/
theorem endedRunIsFinal : Obligations.EndedRunIsFinal :=
  fun _ => ⟨step_halted, step_exceeded, fun _ => step_faulted⟩

end Sys2Proof
end

section
/-! SUPPORT. The statements on data memory: a macro program's image, the memory stage, and a store followed by a load. -/

namespace Sys2Proof.Machine

/-! ## The image of a macro program -/

/-- Where an image names each address once, every word that it lists reads back (R396). -/
theorem Memory.read_writeAll_of_mem {image : List (Word × Word)} (hdistinct : image.Pairwise (·.1 ≠ ·.1)) {m : Memory}
    (hm : m.wf = true) {a v : Word} (h : (a, v) ∈ image) : (Memory.writeAll image m).read a = v := by
  obtain ⟨before, after, rfl⟩ := List.append_of_mem h
  obtain ⟨_, hlast, _⟩ := List.pairwise_append.mp hdistinct
  exact Memory.read_writeAll_last before v hm fun p hp => (List.rel_of_pairwise_cons hlast hp).symm

/-- Word `n` of a program with its halt word is placed at address `n` (R77, R394). -/
theorem mem_programImage {words : List Word} {n : Nat} {w : Word}
    (h : (words ++ [Config.macroHaltWord])[n]? = some w) : (BitVec.ofNat 16 n, w) ∈ programImage words :=
  List.mem_map.mpr ⟨(w, n), List.mk_mem_zipIdx_iff_getElem?.mpr h, rfl⟩

/-- A program that fits with its halt word in memory names each address once. -/
theorem programImage_addresses_distinct {words : List Word} (h : words.length < 65536) :
    (programImage words).Pairwise (·.1 ≠ ·.1) := by
  rw [programImage, List.pairwise_map, List.pairwise_iff_getElem]
  intro i j hi hj hij heq
  have hbound : j < words.length + 1 := by simpa using hj
  have hwrap : i % 65536 = j % 65536 := by simpa using congrArg BitVec.toNat heq
  omega

/-- A program's word is read back at its index, from any memory that it is loaded into. -/
theorem read_loadImage_programImage {words : List Word} (hlen : words.length < 65536) {s : State}
    (hwf : s.mem.wf = true) {n : Nat} {w : Word} (h : (words ++ [Config.macroHaltWord])[n]? = some w) :
    (loadImage (programImage words) s).mem.read (BitVec.ofNat 16 n) = w := by
  rw [loadImage_eq]
  exact Memory.read_writeAll_of_mem (programImage_addresses_distinct hlen) hwf (mem_programImage h)

/-! ## Memory over a completed cycle -/

/-- A completed cycle keeps the canonical form of memory. -/
theorem Completes.mem_wf {s t : State} {f : Fields} (h : Completes s t f) (hwf : s.mem.wf = true) :
    t.mem.wf = true := by
  obtain ⟨_, _, st, m, _, _, rfl⟩ := h.shape
  exact wf_afterCycle_mem f hwf st m

end Sys2Proof.Machine

namespace Sys2Proof

open Machine

/-! ## The statements -/

/-- Settles O7: the image names each address once, so no later word covers an earlier one. -/
theorem programImageReadsBack : Obligations.ProgramImageReadsBack := by
  intro words hlen
  obtain ⟨hwf, _, _⟩ := reset_maps_wf
  refine ⟨fun n hn => ?word, ?halt⟩
  case word =>
    refine read_loadImage_programImage hlen hwf ?_
    rw [List.getElem?_append_left hn, List.getElem?_eq_getElem hn]
  case halt => exact read_loadImage_programImage hlen hwf List.getElem?_concat_length

/-- Settles O55, from what a word reads after a write to the same and to another address. -/
theorem memoryStageRows : Obligations.MemoryStageRows := by
  refine ⟨fun s hwf => ?write, fun _ => rfl, fun _ _ => Memory.read_of_unlisted⟩
  case write =>
    exact ⟨s.mem.write s.abus s.dbus, rfl, Memory.wf_write hwf _ _, Memory.read_write_same hwf _ _,
      fun _ => Memory.read_write_other _ _⟩

/-- Settles O56: the first cycle leaves its data bus in memory, and the second reads the word there. -/
theorem storeThenLoad : Obligations.StoreThenLoad := by
  intro s t u f g hwf hst htu hf hg habus
  obtain ⟨hwrite, _⟩ := completedCycleMemory s t f hwf hst
  obtain ⟨_, hread, _⟩ := completedCycleMemory t u g (hst.mem_wf hwf) htu
  obtain ⟨hstored, _⟩ := hwrite hf
  obtain ⟨_, hloaded⟩ := hread hg
  calc u.dbus = t.mem.read u.abus := hloaded
    _ = t.mem.read t.abus := by rw [habus]
    _ = t.dbus := hstored

end Sys2Proof
end

section
/-! SUPPORT. The statements on the encoding: rows, fields and macro programs that read back, the sub-field that nothing
reads, and what lets a cycle of legal fields complete. -/

namespace Sys2Proof

/-! ## Control words -/

/-- A field cut out and put back at its place, bit by bit: the word's own bits inside the field's range, 0 outside. -/
theorem placed_extractLsb' (w : ControlWord) (o n i : Nat) :
    (!decide (i < o) && (w.extractLsb' o n).getLsbD (i - o)) = (decide (o ≤ i ∧ i < o + n) && w.getLsbD i) := by
  by_cases h : o ≤ i
  · have hrange : i - o < n ↔ i < o + n := by omega
    simp [h, hrange, Nat.add_sub_cancel' h]
  · simp [h, Nat.lt_of_not_le h]

/-- The same for a field of one bit. -/
theorem placed_getLsbD (w : ControlWord) (o i : Nat) :
    (decide (i = o) && w.getLsbD o) = (decide (i = o) && w.getLsbD i) := by
  by_cases h : i = o <;> simp [h]

/-- A word's fields, put back at their offsets, are the word: the ranges of R101 cover each of the 75 bits (R102). -/
theorem toWord_extractFields (w : ControlWord) : (extractFields w).toWord = w := by
  apply BitVec.eq_of_getLsbD_eq
  intro i hi
  simp only [toWord_getLsbD, extractFields, placed_extractLsb', placed_getLsbD w _ i, ← Bool.and_or_distrib_right]
  cases w.getLsbD i
  case false => simp
  case true =>
    simp only [Bool.and_true, Bool.and_eq_true, Bool.or_eq_true, decide_eq_true_eq]
    omega

/-- Words with the same fields are equal. -/
theorem extractFields_injective {v w : ControlWord} (h : extractFields v = extractFields w) : v = w := by
  rw [← toWord_extractFields v, h, toWord_extractFields]

/-- The halt sentinel is the word 2^75 - 1 (R110). -/
theorem eq_haltWord_iff (w : ControlWord) : w = Config.haltWord ↔ w.toNat = 2 ^ 75 - 1 := by
  rw [← BitVec.toNat_inj, Config.haltWord, BitVec.toNat_allOnes]

/-- A word decodes to HALT when it is the sentinel, and only then (R110, R116). -/
theorem decodeWord_eq_halt_iff (w : ControlWord) : decodeWord w = .halt ↔ w = Config.haltWord := by
  refine ⟨fun h => ?_, fun h => h ▸ decodeWord_haltWord⟩
  by_contra hne
  cases (decodeWord_of_ne hne).symm.trans h

/-- Words that decode alike are equal: the sentinel decodes as no other word does, and every other word is rebuilt from
its fields. -/
theorem decodeWord_injective {v w : ControlWord} (h : decodeWord v = decodeWord w) : v = w := by
  by_cases hw : w = Config.haltWord
  case pos => rw [hw, ← decodeWord_eq_halt_iff, h, hw, decodeWord_haltWord]
  case neg =>
    have hv : v ≠ Config.haltWord := fun e => hw ((decodeWord_eq_halt_iff w).mp (by rw [← h, e, decodeWord_haltWord]))
    rw [decodeWord_of_ne hv, decodeWord_of_ne hw] at h
    exact extractFields_injective (Decoded.fields.inj h)

/-! ## Rows -/

open Laws.RoundTrip in
/-- Every row reads back, by the law of the row itself: the laws follow the order of the constructors, family by family. -/
theorem roundTrip (i : Instr) : Statement i := by
  cases i
  exacts [halt,
    ciReset, ciCjs _ _, ciJmap, ciCjp _ _, ciPush _, ciCrtn _, ciCjpp _ _, ciCont, ciInvalid0101, ciInvalid0110,
    ciInvalid0111, ciInvalid1000, ciInvalid1001, ciInvalid1100, ciInvalid1101, ciInvalid1111,
    icNone, icAbusPc, icPcInc, icDbusPc, icPcDbus, icMalformed0011, icMalformed0101, icMalformed0110, icMalformed0111,
    icMalformed1001, icMalformed1010, icMalformed1011, icMalformed1100, icMalformed1101, icMalformed1110,
    icMalformed1111,
    dsAq, dsAb, dsZq, dsZb, dsZa, dsDa, dsDq, dsDz,
    opAdd, opSubr, opSubs, opOr, opAnd, opNotrs, opExor, opExnor,
    rsNone, rsAcc, rsRegPass, rsReg, rsIllegal4, rsIllegal5, rsIllegal6, rsIllegal7,
    yMuxNone, yMuxAbus, yMuxDbus, yMuxAbusDbus,
    selMicro, selMacro, selNone, selIllegal,
    copNz, copZ, copNc, copC, copNcAndNz, copCOrZ,
    copOther00, copOther01, copOther02, copOther03, copOther06, copOther07, copOther08, copOther09, copOther0E,
    copOther0F, copOther10, copOther11, copOther12, copOther13, copOther14, copOther15, copOther16, copOther17,
    copOther18, copOther19, copOther1A, copOther1B, copOther1C, copOther1D, copOther1E, copOther1F, copOther20,
    copOther21, copOther22, copOther23, copOther24, copOther25, copOther26, copOther27, copOther28, copOther29,
    copOther2A, copOther2B, copOther2C, copOther2D, copOther2E, copOther2F, copOther30, copOther31, copOther32,
    copOther33, copOther34, copOther35, copOther36, copOther37, copOther38, copOther39, copOther3A, copOther3B,
    copOther3C, copOther3D, copOther3E, copOther3F,
    mweRead, mweWrite, irLoad, srMacroLatch, srMicroLatch,
    aMuxField _, aMuxIr, bMuxField _, bMuxIr, kMuxConst _, kMuxDbus, sscuUnread _,
    macNoInstruction _ _, macMovRegReg _ _, macMovConstReg _ _, macMovLoad _ _, macMovStore _ _, macAdd _ _,
    macSub _ _, macCmp _ _, macXor _ _, macTest _ _, macJmpReg _ _, macJmpConst _ _, macJzReg _ _, macJzConst _ _,
    macJlReg _ _, macJlConst _ _, macJleReg _ _, macJleConst _ _, macWtf _ _, macUpp _ _, macHalt]

/-! ## Macro programs -/

/-- The word of a macro row reads as that row, well formed or not: each row has an opcode of its own, and both register
fields read back. -/
theorem decodeMacro_of_encode {i : Instr} {w : Word} (h : encode i = .macroWord w) : decodeMacro w = .ok i := by
  cases i <;> cases h
  case macHalt => rfl
  all_goals simp [decodeMacro]

/-- The forms with a literal, by the opcode of the row's word (R392). -/
theorem hasLiteral_iff_of_encode {i : Instr} {w : Word} (h : encode i = .macroWord w) :
    i.hasLiteral = true ↔ (macroOpcode w).toNat ∈ [0x02, 0x0B, 0x0D, 0x0F, 0x11] := by
  cases i <;> cases h
  all_goals simp [Instr.hasLiteral]

section

variable {i : Instr} {w : Word} {rest : List Word}

theorem decodeMacroWords_of_literal (hd : decodeMacro w = .ok i) (hl : i.hasLiteral = true) (v : Word) :
    decodeMacroWords (w :: v :: rest) = .ok (some (i, some v, rest)) := by
  simp only [decodeMacroWords, hd, hl, if_true]

theorem decodeMacroWords_of_no_literal (hd : decodeMacro w = .ok i) (hl : i.hasLiteral = false) :
    decodeMacroWords (w :: rest) = .ok (some (i, none, rest)) := by
  simp only [decodeMacroWords, hd, hl, Bool.false_eq_true, if_false]

end

end Sys2Proof

namespace Sys2Proof.Machine

open Reference

/-! ## What lets a cycle complete -/

/-- The sequencer's answer is a next state in which it has moved `mic` and the stack, and nothing else. -/
def SequencerMoves (s : State) (o : Result) : Prop := ∃ st m, o = .next ((s.setStack st).setMic m)

section Moves

variable {s : State}

theorem SequencerMoves.goTo (m : Nat) : SequencerMoves s (goTo m s) := ⟨s.stack, m, rfl⟩

/-- A conditional instruction moves on either path (R282, R285). -/
theorem SequencerMoves.conditional {ccen : Bool} {o : Result} (h : condHolds ccen s = false → SequencerMoves s o) :
    SequencerMoves s (if condHolds ccen s then goOn s else o) := by
  cases hc : condHolds ccen s
  case true => exact .goTo _
  case false => exact h hc

/-- A push moves where there is room (R283). -/
theorem SequencerMoves.pushAndGo (room : s.stack.length < Config.stackDepth) (v target : Nat) :
    SequencerMoves s (pushAndGo v target s) := by
  rcases pushAndGo_cases v target s with ⟨full, _⟩ | ⟨_, h⟩
  · exact absurd room (by omega)
  · exact ⟨_, _, h⟩

/-- A pop moves where there is an entry (R284). -/
theorem SequencerMoves.popAndGo (entry : s.stack ≠ []) (target : Nat → Nat) :
    SequencerMoves s (popAndGo target s) := by
  rcases popAndGo_cases target s with ⟨empty, _⟩ | ⟨rest, v, _, h⟩
  · exact absurd empty entry
  · exact ⟨_, _, h⟩

end Moves

/-- Step 10 moves on where `ci` is valid and the stack has the room or the entry that the path taken needs (R282 to
R284). -/
theorem exec_ciOrder_moves {ci : BitVec 4} {bar : BitVec 12} {ccen : Bool} {s : State}
    (hci : ci.toNat ∈ [0, 1, 2, 3, 4, 10, 11, 14]) (hpush : ci.toNat = 4 → s.stack.length < 5)
    (hcall : ci.toNat = 1 → condHolds ccen s = false → s.stack.length < 5)
    (hpop : ci.toNat ∈ [10, 11] → condHolds ccen s = false → s.stack ≠ []) :
    SequencerMoves s (exec (ciOrder ci bar ccen) s) := by
  have hvalid : ∀ v : BitVec 4, v.toNat ∈ [0, 1, 2, 3, 4, 10, 11, 14] →
      v = 0 ∨ v = 1 ∨ v = 2 ∨ v = 3 ∨ v = 4 ∨ v = 10 ∨ v = 11 ∨ v = 14 := by decide
  rcases hvalid ci hci with rfl | rfl | rfl | rfl | rfl | rfl | rfl | rfl
  · exact ⟨_, _, rfl⟩
  · exact .conditional fun hc => .pushAndGo (hcall rfl hc) _ _
  · exact .goTo _
  · exact .conditional fun _ => .goTo _
  · exact .pushAndGo (hpush rfl) _ _
  · exact .conditional fun hc => .popAndGo (hpop (by decide) hc) _
  · exact .conditional fun hc => .popAndGo (hpop (by decide) hc) _
  · exact .goTo _

/-- Steps 10 to 12 complete the cycle once the sequencer has moved (R337 to R339). -/
theorem backOrders_complete {f : Fields} {s : State} (hs : s.outcome = .running)
    (h : SequencerMoves s (exec (ciOrder f.ci f.bar f.ccen) s)) :
    ∃ t, andThen (runOrders f.backOrders s) endCycle = .next t ∧ t.outcome = .running := by
  obtain ⟨st, m, hmove⟩ := h
  rw [Fields.backOrders, runOrders_cons_of_next hmove hs,
    runOrders_cons_of_next (exec_mweOrder _ ((s.setStack st).setMic m)) hs, runOrders_nil,
    andThen_running (by simpa using hs)]
  exact ⟨_, rfl, hs⟩

/-- Step 9 raises no fault on an opcode that is 0 or mapped (R336, R371). -/
theorem mapStage_of_opcodeIsMapped {f : Fields} {s : State} (h : opcodeIsMapped f s) :
    ∃ a, mapStage (afterStatus f s) = .next (afterMapping f s a) := by
  rw [mapStage_eq]
  rcases mapOpcode_cases (afterStatus f s) with ⟨_, hmap⟩ | ⟨h0, hnone, _⟩ | ⟨a, _, _, hmap⟩
  · exact ⟨0, hmap⟩
  · rcases h with hz | ⟨a, ha⟩
    · exact absurd hz h0
    · cases hnone.symm.trans ha
  · exact ⟨a.toNat, hmap⟩

/-- Steps 3 to 8 raise no fault on legal fields (R323, R204, R242). -/
theorem runOrders_frontOrders_of_reachesMapping {f : Fields} {s : State} (hs : s.outcome = .running)
    (h : reachesMapping f) : runOrders f.frontOrders s = .next (afterStatus f s) := by
  obtain ⟨hic, hrs, hsel⟩ := h
  rw [runOrders_frontOrders hs, if_neg (not_not.mpr hic), if_neg (by omega), if_neg hsel]

/-- Steps 3 to 12 complete where the fields are legal, the opcode is mapped and the sequencer moves. -/
theorem runFields_complete {f : Fields} {s : State} (hs : s.outcome = .running) (hlegal : reachesMapping f)
    (hmapped : opcodeIsMapped f s)
    (hmoves : ∀ a, SequencerMoves (afterMapping f s a) (exec (ciOrder f.ci f.bar f.ccen) (afterMapping f s a))) :
    ∃ t, runFields f s = .next t ∧ t.outcome = .running := by
  obtain ⟨a, hmap⟩ := mapStage_of_opcodeIsMapped hmapped
  have hrun : (afterMapping f s a).outcome = .running := hs
  rw [runFields, runOrders_frontOrders_of_reachesMapping hs hlegal, andThen_running (s := afterStatus f s) hs, hmap,
    andThen_running hrun]
  exact backOrders_complete hrun (hmoves a)

/-- The step of a machine that goes on with fields is the counted call on those fields (R320, R455). -/
theorem step_of_runsFields {s : State} {f : Fields} (h : runsFields s f) :
    step s = runFields f (s.setCalls (s.calls + 1)) := by
  obtain ⟨⟨hrun, hlimit⟩, hfetch⟩ := h
  obtain ⟨w, hw, hd⟩ := Option.map_eq_some_iff.mp hfetch
  rw [step_running hrun hlimit]
  exact cycle_of_fields hw hd

/-! ## The bits that nothing reads -/

/-- The state after step 8 depends on `sscu` through `sel` and `cop` only (R104). -/
theorem afterStatus_sscu {f : Fields} {c : BitVec 12} (hsel : Fields.sel { f with sscu := c } = f.sel)
    (hcop : Fields.cop { f with sscu := c } = f.cop) (s : State) :
    afterStatus { f with sscu := c } s = afterStatus f s := by
  simp only [afterStatus, statusSignals, hsel, hcop]
  rfl

/-- Steps 3 to 8 depend on `sscu` through `sel` and `cop` only. -/
theorem runOrders_frontOrders_sscu {f : Fields} {c : BitVec 12} (hsel : Fields.sel { f with sscu := c } = f.sel)
    (hcop : Fields.cop { f with sscu := c } = f.cop) {s : State} (hs : s.outcome = .running) :
    runOrders (Fields.frontOrders { f with sscu := c }) s = runOrders f.frontOrders s := by
  rw [runOrders_frontOrders hs, runOrders_frontOrders hs, afterStatus_sscu hsel hcop, hsel]
  rfl

end Sys2Proof.Machine

namespace Sys2Proof

open Machine Reference

/-! ## The statements -/

/-- Settles O1, by the law of each row. -/
theorem decodeEncodeAgree : Obligations.DecodeEncodeAgree := roundTrip

/-- Settles O2: the ranges of the fields cover the word. -/
theorem fieldsCoverTheControlWord : Obligations.FieldsCoverTheControlWord := toWord_extractFields

/-- Settles O3: a word that is not the sentinel is rebuilt from its fields. -/
theorem decodingIsInjective : Obligations.DecodingIsInjective :=
  ⟨fun _ _ => decodeWord_injective, fun w => (decodeWord_eq_halt_iff w).trans (eq_haltWord_iff w),
    fun w hne => decodeWord_of_ne fun h => hne ((eq_haltWord_iff w).mp h)⟩

/-- Settles O6: the first word reads as its row, and the row says whether the next word belongs to it. -/
theorem macroProgramReadsBack : Obligations.MacroProgramReadsBack := by
  refine ⟨fun i w lit rest he hlit => ?front, fun _ _ => hasLiteral_iff_of_encode⟩
  have hd := decodeMacro_of_encode he
  cases lit with
  | none => exact decodeMacroWords_of_no_literal hd hlit.symm
  | some v => exact decodeMacroWords_of_literal hd hlit.symm v

/-- Settles O16: counting the call changes no value of the cycle, and no stage of the cycle raises its fault. -/
theorem legalCycleCompletes : Obligations.LegalCycleCompletes := by
  intro s f hrun hlegal hci hmapped hpush hcall hpop
  have hmoves (a : Nat) : SequencerMoves (afterMapping f (s.setCalls (s.calls + 1)) a)
      (exec (ciOrder f.ci f.bar f.ccen) (afterMapping f (s.setCalls (s.calls + 1)) a)) :=
    exec_ciOrder_moves hci hpush hcall hpop
  obtain ⟨t, ht, hgoing⟩ := runFields_complete (s := s.setCalls (s.calls + 1)) hrun.1.1 hlegal hmapped hmoves
  exact ⟨t, hrun, (step_of_runsFields hrun).trans ht, hgoing⟩

/-- Settles O44: the row of the bits does nothing, and no other row or stage takes them from the fields. -/
theorem unreadBitsHaveNoEffect : Obligations.UnreadBitsHaveNoEffect := by
  refine ⟨fun _ _ => rfl, fun f g s hs hg hsel hcop => ?alike⟩
  obtain ⟨c, rfl⟩ : ∃ c, g = { f with sscu := c } := ⟨g.sscu, hg⟩
  rw [runFields, runFields, runOrders_frontOrders_sscu hsel hcop hs]
  rfl

/-- Settles O26: each row latches its one signal. -/
theorem operandMuxRows : Obligations.OperandMuxRows :=
  fun _ => ⟨fun _ => rfl, rfl, fun _ => rfl, rfl, fun _ => rfl, rfl⟩

/-- Settles O37: each row writes the buses or the register of its rule. -/
theorem routingAndIrRows : Obligations.RoutingAndIrRows :=
  fun _ => ⟨rfl, rfl, rfl, rfl, rfl⟩

end Sys2Proof
end

section
/-! SUPPORT. The statement on construction: the store of a list is built exactly when every word fits. -/

namespace Sys2Proof.Machine

/-! ## Building the control store -/

/-- Every word that fits is placed, whatever stands already (R151). -/
theorem buildStore_cons_of_lt {rest : List (MicroAddr × Nat)} {m : ControlStore} (hrest : buildStore rest = .ok m)
    (a : MicroAddr) {w : Nat} (hw : w < 2 ^ 75) :
    buildStore ((a, w) :: rest) = .ok (insertCell m a.toNat (BitVec.ofNat 75 w)) := by
  simp only [buildStore, hrest, if_pos hw]

/-- A word that does not fit is refused, whatever stands already (R151). -/
theorem buildStore_cons_of_ge {rest : List (MicroAddr × Nat)} {m : ControlStore} (hrest : buildStore rest = .ok m)
    (a : MicroAddr) {w : Nat} (hw : 2 ^ 75 ≤ w) : buildStore ((a, w) :: rest) = .error .outOfRange := by
  simp only [buildStore, hrest, if_neg (Nat.not_lt.mpr hw)]

/-- A refusal further down the list refuses the list. -/
theorem buildStore_cons_of_error {rest : List (MicroAddr × Nat)} {r : DecodeError}
    (hrest : buildStore rest = .error r) (e : MicroAddr × Nat) : buildStore (e :: rest) = .error r := by
  simp only [buildStore, hrest]

theorem buildStore_of_fits {store : List (MicroAddr × Nat)} (hfits : ∀ e ∈ store, e.2 < 2 ^ 75) :
    ∃ m, buildStore store = .ok m := by
  induction store with
  | nil => exact ⟨[], rfl⟩
  | cons e rest ih =>
    obtain ⟨he, hrest⟩ := List.forall_mem_cons.mp hfits
    obtain ⟨m, hm⟩ := ih hrest
    exact ⟨_, buildStore_cons_of_lt hm e.1 he⟩

/-- The rest of the list is built before its first word is checked: either the rest is refused already, or it fits and
the word that does not fit is the first. -/
theorem buildStore_of_oversized {store : List (MicroAddr × Nat)} (hover : ∃ e ∈ store, 2 ^ 75 ≤ e.2) :
    buildStore store = .error .outOfRange := by
  induction store with
  | nil => simp at hover
  | cons e rest ih =>
    by_cases hrest : ∃ d ∈ rest, 2 ^ 75 ≤ d.2
    · exact buildStore_cons_of_error (ih hrest) e
    · have he : 2 ^ 75 ≤ e.2 := ((List.exists_mem_cons_iff _ e rest).mp hover).resolve_right hrest
      have hfits : ∀ d ∈ rest, d.2 < 2 ^ 75 := fun d hd => Nat.lt_of_not_le fun hge => hrest ⟨d, hd, hge⟩
      obtain ⟨m, hm⟩ := buildStore_of_fits hfits
      exact buildStore_cons_of_ge hm e.1 he

/-! ## Construction -/

theorem construct_of_buildStore_error {store : List (MicroAddr × Nat)} {r : DecodeError}
    (h : buildStore store = .error r) (table : List (BitVec 8 × MicroAddr)) (limit : Nat) :
    construct store table limit = .error r := by
  simp only [construct, h]

theorem construct_of_buildStore_ok {store : List (MicroAddr × Nat)} {m : ControlStore} (h : buildStore store = .ok m)
    (table : List (BitVec 8 × MicroAddr)) (limit : Nat) :
    construct store table limit =
      .ok (((State.reset.setStore m).setProm (buildTable table)).setStepLimit limit) := by
  simp only [construct, h]

end Sys2Proof.Machine

namespace Sys2Proof

open Machine

/-! ## The statements -/

/-- Settles O5: the store alone decides whether construction fails. -/
theorem oversizedWordIsRefused : Obligations.OversizedWordIsRefused := by
  refine fun store table limit => ⟨fun hover => ?oversized, fun hfits => ?fits⟩
  case oversized => exact construct_of_buildStore_error (buildStore_of_oversized hover) table limit
  case fits =>
    obtain ⟨m, hm⟩ := buildStore_of_fits hfits
    exact ⟨_, construct_of_buildStore_ok hm table limit⟩

end Sys2Proof
end

section
/-! SUPPORT. The statements on the ALU's rows (41_alu.md): masking as a map onto word arithmetic, the four flag bits by
where the raw result lies, and the rows of the sources, functions and destinations. -/

namespace Sys2Proof.Machine

/-! ## Masking is a map onto word arithmetic (R11, R198) -/

theorem mask16_add (v w : Int) : mask16 (v + w) = mask16 v + mask16 w := BitVec.ofInt_add v w

theorem mask16_sub (v w : Int) : mask16 (v - w) = mask16 v - mask16 w := by
  rw [sub_eq_add_neg, mask16_add, BitVec.sub_eq_add_neg]
  exact congrArg (mask16 v + ·) BitVec.ofInt_neg

theorem mask16_natCast (n : Nat) : mask16 (n : Int) = BitVec.ofNat 16 n := BitVec.ofInt_natCast 16 n

/-- The complement of an unbounded integer masks to the complement of the word (R197). -/
theorem mask16_complement (w : Word) : mask16 (-asInt w - 1) = ~~~w := by
  rw [mask16_sub, BitVec.not_eq_neg_add, mask16, BitVec.ofInt_neg]
  exact congrArg (-· - 1#16) (mask16_asInt w)

/-- Masking a difference is the difference of the words (R191, R192). -/
theorem mask16_difference (a b : Word) (c : Nat) :
    mask16 (asInt a - asInt b - c) = a - b - BitVec.ofNat 16 c := by
  rw [mask16_sub, mask16_sub, mask16_asInt, mask16_asInt, mask16_natCast]

/-- The sum of ADD is a natural number (R190). -/
theorem rawAdd_natCast (r s : Word) (c : Nat) : rawAdd r s c = ((r.toNat + s.toNat + c : Nat) : Int) := by
  simp only [rawAdd, asInt, Nat.cast_add]

/-- The carry-in is the C bit of the micro status as a number (R241). -/
theorem carryIn_eq (s : State) : carryIn s = ((if s.uS.getLsbD 2 then 1 else 0 : Nat) : Int) := by
  unfold carryIn statusC
  split <;> rfl

/-! ## The four flags (R199) -/

/-- The flags as four bits, OVR first (R33). -/
theorem flagsOf_bits (raw : Int) :
    (flagsOf raw).getLsbD 3 = decide (raw > 65535 ∨ raw < 0) ∧
      (flagsOf raw).getLsbD 2 = decide (raw > 65535 ∨ raw < 0) ∧
      (flagsOf raw).getLsbD 1 = decide (raw < 0) ∧ (flagsOf raw).getLsbD 0 = decide (mask16 raw = 0) := by
  have hbits : ∀ (o c n z : Bool) (w : Status),
      w = BitVec.ofBool o ++ BitVec.ofBool c ++ BitVec.ofBool n ++ BitVec.ofBool z →
        w.getLsbD 3 = o ∧ w.getLsbD 2 = c ∧ w.getLsbD 1 = n ∧ w.getLsbD 0 = z := by
    rintro o c n z _ rfl
    revert o c n z
    decide
  simp only [mask16_eq_zero]
  exact hbits _ _ _ _ _ (flagsOf_eq_flagBits raw)

/-- The flags of a sum: OVR and C where it does not fit in 16 bits, and never N (R190). -/
theorem flagsOf_natCast_bits (n : Nat) :
    ((flagsOf n).getLsbD 3 = true ↔ 0xFFFF < n) ∧ (flagsOf n).getLsbD 2 = (flagsOf n).getLsbD 3 ∧
      (flagsOf n).getLsbD 1 = false ∧ ((flagsOf n).getLsbD 0 = true ↔ n % 65536 = 0) := by
  obtain ⟨hovr, hc, hn, hz⟩ := flagsOf_bits n
  refine ⟨?_, hc.trans hovr.symm, ?_, ?_⟩
  · rw [hovr, decide_eq_true_iff]
    omega
  · rw [hn, decide_eq_false_iff_not]
    omega
  · rw [hz, decide_eq_true_iff, mask16_eq_zero]
    omega

/-- The flags of a difference: OVR, C and N together where it borrows (R191, R192). -/
theorem flagsOf_difference_bits (a b : Word) (c : Nat) :
    ((flagsOf (asInt a - asInt b - c)).getLsbD 1 = true ↔ a.toNat < b.toNat + c) ∧
      (flagsOf (asInt a - asInt b - c)).getLsbD 2 = (flagsOf (asInt a - asInt b - c)).getLsbD 1 ∧
      (flagsOf (asInt a - asInt b - c)).getLsbD 3 = (flagsOf (asInt a - asInt b - c)).getLsbD 1 ∧
      ((flagsOf (asInt a - asInt b - c)).getLsbD 0 = true ↔ a - b - BitVec.ofNat 16 c = 0) := by
  obtain ⟨hovr, hc, hn, hz⟩ := flagsOf_bits (asInt a - asInt b - c)
  have hfits : (asInt a - asInt b - c > 65535 ∨ asInt a - asInt b - c < 0) ↔ asInt a - asInt b - c < 0 := by
    have ha := asInt_bounds a
    have hb := asInt_bounds b
    omega
  simp only [hfits] at hovr hc
  refine ⟨?_, hc.trans hn.symm, hovr.trans hn.symm, ?_⟩
  · rw [hn, decide_eq_true_iff, asInt, asInt]
    omega
  · rw [hz, decide_eq_true_iff, mask16_difference]

/-- A 16-bit raw result sets Z alone, where it is 0 (R193 to R196). -/
theorem flagsOf_asInt (w : Word) : flagsOf (asInt w) = if w = 0 then 0b0001 else 0b0000 := by
  have hw := asInt_bounds w
  rcases flagsOf_cases (asInt w) with ⟨h, _⟩ | ⟨_, _, h⟩ | ⟨h, _⟩
  · omega
  · rw [h, mask16_asInt]
  · omega

/-- The raw result of EXNOR is negative, so N, OVR and C are set (R197, decision D3). -/
theorem flagsOf_complement (w : Word) :
    flagsOf (-asInt w - 1) = if w = 0xFFFF then 0b1111 else 0b1110 := by
  have hw := asInt_bounds w
  have hzero : ~~~w = 0 ↔ w = 0xFFFF := BitVec.not_eq_comm
  rcases flagsOf_cases (-asInt w - 1) with ⟨_, h⟩ | ⟨h, _⟩ | ⟨h, _⟩
  · simp only [h, mask16_complement, hzero]
  · omega
  · omega

/-- The six flag values (R199). -/
theorem flagsOf_mem (raw : Int) :
    flagsOf raw ∈ ([0b0000, 0b0001, 0b1100, 0b1101, 0b1110, 0b1111] : List Status) := by
  rcases flagsOf_cases raw with ⟨_, h⟩ | ⟨_, _, h⟩ | ⟨_, h⟩ <;> rw [h] <;> split <;> decide

/-! ## The function rows -/

/-- A bitwise function latches its word, and Z as its only flag (R193 to R196). -/
theorem latchResult_asInt (w : Word) (s : State) :
    latchResult (asInt w) s =
      .next (s.setSig { s.sig with f := w, flags := if w = 0 then 0b0001 else 0b0000 }) := by
  rw [latchResult_eq, mask16_asInt, flagsOf_asInt]

/-- Every function row latches the result and the flags of a raw result (R190 to R199). -/
theorem exec_of_family_op {i : Instr} (h : i.family = .op) (s : State) : ∃ raw, exec i s = latchResult raw s := by
  cases i
  case opAdd | opSubr | opSubs | opOr | opAnd | opNotrs | opExor | opExnor => exact ⟨_, rfl⟩
  all_goals cases h

end Sys2Proof.Machine

namespace Sys2Proof

open Machine

/-! ## The statements -/

/-- Settles O28: the sum with the carry-in is a natural number, so it is never negative. -/
theorem addRow : Obligations.AddRow := by
  intro s
  refine ⟨_, ?_, flagsOf_natCast_bits _⟩
  change latchResult (rawAdd s.sig.r s.sig.s (carryIn s)) s = _
  rw [carryIn_eq, rawAdd_natCast, latchResult_eq, mask16_natCast]

/-- Settles O29: the flags of the difference `S - R - cin`. -/
theorem subrRow : Obligations.SubrRow := by
  intro s
  refine ⟨_, ?_, flagsOf_difference_bits s.sig.s s.sig.r _⟩
  change latchResult (rawSubr s.sig.r s.sig.s (carryIn s)) s = _
  rw [carryIn_eq, rawSubr, latchResult_eq, mask16_difference]

/-- Settles O30: the flags of the difference `R - S - cin`. -/
theorem subsRow : Obligations.SubsRow := by
  intro s
  refine ⟨_, ?_, flagsOf_difference_bits s.sig.r s.sig.s _⟩
  change latchResult (rawSubs s.sig.r s.sig.s (carryIn s)) s = _
  rw [carryIn_eq, rawSubs, latchResult_eq, mask16_difference]

/-- Settles O31: each of the four functions gives a 16-bit word; `R xor 0xFFFF` is the complement of R, and `R xor S` is
0 where R and S are equal. -/
theorem logicRows : Obligations.LogicRows := by
  intro s
  have hnot : s.sig.r ^^^ 0xFFFF = ~~~s.sig.r := BitVec.xor_allOnes
  have hequal : s.sig.r ^^^ s.sig.s = 0 ↔ s.sig.r = s.sig.s := BitVec.xor_eq_zero_iff
  refine ⟨latchResult_asInt _ s, latchResult_asInt _ s, ?notrs, ?exor⟩
  case notrs =>
    rw [← hnot]
    exact latchResult_asInt _ s
  case exor =>
    simp only [← hequal]
    exact latchResult_asInt _ s

/-- Settles O32: the raw result is the complement of an unbounded integer, which is negative (decision D3). -/
theorem exnorRow : Obligations.ExnorRow := by
  intro s
  change latchResult (rawExnor s.sig.r s.sig.s) s = _
  rw [rawExnor, latchResult_eq, mask16_complement, flagsOf_complement]

/-- Settles O33: the raw result is negative, in 16 bits or above them. -/
theorem aluFlagValues : Obligations.AluFlagValues := by
  intro i s t hop h
  obtain ⟨raw, hraw⟩ := exec_of_family_op hop s
  cases hraw.symm.trans h
  have hvalues : ∀ fl ∈ ([0b0000, 0b0001, 0b1100, 0b1101, 0b1110, 0b1111] : List Status),
      fl.getLsbD 3 = fl.getLsbD 2 ∧ (fl.getLsbD 1 = true → fl.getLsbD 3 = true ∧ fl.getLsbD 2 = true) := by decide
  exact ⟨flagsOf_mem raw, hvalues _ (flagsOf_mem raw)⟩

/-- Settles O27: each row latches the two inputs of its rule. -/
theorem aluSourceRows : Obligations.AluSourceRows :=
  fun _ => ⟨rfl, rfl, rfl, rfl, rfl, rfl, rfl, rfl⟩

/-- Settles O34: each row writes the destination of its rule, and a register write reads back there and nowhere else. -/
theorem aluDestinationRows : Obligations.AluDestinationRows :=
  ⟨fun _ => ⟨rfl, rfl, rfl, rfl⟩,
    fun s i _ v => ⟨s.reg_setReg_same i v, s.reg_setReg_other v, s.setReg_eq i v⟩⟩

end Sys2Proof
end

section
/-! SUPPORT. The statements on the ALU in a whole cycle: the values that a completed cycle keeps of its result, and what
a cycle that faults has written. -/

namespace Sys2Proof.Machine

open Reference

/-! ## The result of a cycle -/

/-- The carry-in as a word (R241). -/
theorem ofNat_carry (b : Bool) : BitVec.ofNat 16 (if b then 1 else 0) = if b then 1 else 0 := by
  cases b <;> rfl

/-- The result is the masked raw result of the function, with the C bit of the start of the cycle (R198, R241). -/
theorem resultF_eq (f : Fields) (s : State) :
    resultF f s = mask16 (rawResult f.op.toNat (inputR f s) (inputS f s) (if s.uS.getLsbD 2 then 1 else 0 : Nat)) := by
  unfold resultF rawOf
  cases s.uS.getLsbD 2 <;> rfl

/-- The functions from OR on do not use the carry-in (R193 to R197). -/
theorem rawResult_of_three_le {op : Nat} (h : 3 ≤ op) (r s : Word) (c c' : Int) :
    rawResult op r s c = rawResult op r s c' := by
  have h0 : op ≠ 0 := by omega
  have h1 : op ≠ 1 := by omega
  have h2 : op ≠ 2 := by omega
  simp only [rawResult, if_neg h0, if_neg h1, if_neg h2]

/-- So their raw result is the same for every micro status. -/
theorem rawOf_setUS {f : Fields} (h : 3 ≤ f.op.toNat) (s : State) (w : Status) : rawOf f (s.setUS w) = rawOf f s :=
  rawResult_of_three_le h _ _ _ _

/-- DZ with OR passes the D input (R189, R193). -/
theorem resultF_of_pass {f : Fields} (hds : f.ds = 7) (hop : f.op = 3) (s : State) : resultF f s = inputD f s := by
  have hr : inputR f s = inputD f s := by rw [inputR, hds]; rfl
  have hs : inputS f s = 0 := by rw [inputS, hds]; rfl
  have hraw : rawOf f s = asInt (inputD f s ||| 0) := by rw [rawOf, hop, hr, hs]; rfl
  calc resultF f s = mask16 (asInt (inputD f s ||| 0)) := congrArg mask16 hraw
    _ = inputD f s ||| 0 := mask16_asInt _
    _ = inputD f s := BitVec.or_zero

/-- The output is the result for every destination but REG_PASS (R200, R201, R203). -/
theorem outputY_of_ne {f : Fields} (h : f.rs ≠ 2) (s : State) : outputY f s = resultF f s :=
  if_neg fun h2 => h (BitVec.eq_of_toNat_eq h2)

/-- The register of index B holds the result where `rs` writes a register (R202, R203). -/
theorem reg_of_regs_eq_regsAfter_same {f : Fields} {s t : State} (ht : t.regs = regsAfter f s)
    (h : f.rs.toNat = 2 ∨ f.rs.toNat = 3) : t.reg (cycleIndexB f s) = resultF f s := by
  rw [regsAfter, if_pos h] at ht
  rw [State.reg]
  simp only [ht]
  exact s.reg_setReg_same _ _

/-! ## Where a cycle faults -/

/-- Steps 3 to 12, with the three checks of steps 3 to 8 in their order (R323, R204, R242). -/
theorem runFields_eq {f : Fields} {s : State} (hs : s.outcome = .running) :
    runFields f s =
      if f.ic.toNat ∉ [0, 1, 2, 4, 8] then raise .malformedIcField s
      else if 4 ≤ f.rs.toNat then raise .illegalResultSelect (afterIc f s)
      else if f.sel.toNat = 3 then raise .illegalStatusSelect (afterIrLoad f s)
      else andThen (mapStage (afterStatus f s)) fun u => andThen (runOrders f.backOrders u) endCycle := by
  rw [runFields, runOrders_frontOrders hs]
  split
  next => exact andThen_raise _ _ _
  split
  next => exact andThen_raise _ _ _
  split
  next => exact andThen_raise _ _ _
  next => exact andThen_running (s := afterStatus f s) hs _

/-- The faults of step 10 (R283, R284, R294). -/
def sequencerFaults : List Fault := [.invalidControllerInstruction, .stackOverflow, .stackUnderflow]

/-- The answer of step 10 leaves the outcome or raises one of the sequencer's faults. -/
def SequencerEnds (s : State) (o : Result) : Prop :=
  ∃ t, o = .next t ∧ (t.outcome = s.outcome ∨ ∃ k ∈ sequencerFaults, t.outcome = .faulted k)

section SequencerEnds

variable {s : State}

theorem SequencerEnds.raise {k : Fault} (h : k ∈ sequencerFaults) : SequencerEnds s (raise k s) :=
  ⟨_, rfl, .inr ⟨k, h, rfl⟩⟩

theorem SequencerEnds.goTo (m : Nat) : SequencerEnds s (goTo m s) := ⟨_, rfl, .inl rfl⟩

theorem SequencerEnds.pushAndGo (v target : Nat) : SequencerEnds s (pushAndGo v target s) := by
  rcases pushAndGo_cases v target s with ⟨_, h⟩ | ⟨_, h⟩
  · exact h ▸ .raise (by decide)
  · exact ⟨_, h, .inl rfl⟩

theorem SequencerEnds.popAndGo (target : Nat → Nat) : SequencerEnds s (popAndGo target s) := by
  rcases popAndGo_cases target s with ⟨_, h⟩ | ⟨_, _, _, h⟩
  · exact h ▸ .raise (by decide)
  · exact ⟨_, h, .inl rfl⟩

theorem SequencerEnds.conditional {ccen : Bool} {o : Result} (h : SequencerEnds s o) :
    SequencerEnds s (if condHolds ccen s then goOn s else o) := by
  split
  · exact .goTo _
  · exact h

end SequencerEnds

/-- The values of `ci`: eight instructions, and the eight invalid ones (R286 to R294). -/
theorem ci_cases (ci : BitVec 4) : ci = 0 ∨ ci = 1 ∨ ci = 2 ∨ ci = 3 ∨ ci = 4 ∨ ci = 10 ∨ ci = 11 ∨ ci = 14 ∨
    ci ∈ ([5, 6, 7, 8, 9, 12, 13, 15] : List (BitVec 4)) := by
  revert ci; decide

theorem exec_ciOrder_invalid {ci : BitVec 4} (h : ci ∈ ([5, 6, 7, 8, 9, 12, 13, 15] : List (BitVec 4)))
    (bar : BitVec 12) (ccen : Bool) (s : State) :
    exec (ciOrder ci bar ccen) s = raise .invalidControllerInstruction s := by
  simp only [List.mem_cons, List.not_mem_nil, or_false] at h
  rcases h with rfl | rfl | rfl | rfl | rfl | rfl | rfl | rfl <;> rfl

/-- Step 10 raises only the sequencer's faults. -/
theorem exec_ciOrder_ends (ci : BitVec 4) (bar : BitVec 12) (ccen : Bool) (s : State) :
    SequencerEnds s (exec (ciOrder ci bar ccen) s) := by
  rcases ci_cases ci with rfl | rfl | rfl | rfl | rfl | rfl | rfl | rfl | hinvalid
  · exact ⟨_, rfl, .inl rfl⟩
  · exact .conditional (.pushAndGo _ _)
  · exact .goTo _
  · exact .conditional (.goTo _)
  · exact .pushAndGo _ _
  · exact .conditional (.popAndGo _)
  · exact .conditional (.popAndGo _)
  · exact .goTo _
  · exact exec_ciOrder_invalid hinvalid bar ccen s ▸ .raise (by decide)

/-- Where each fault of a cycle stands: the state whose writes the fault keeps (R402). -/
inductive FaultsIn (f : Fields) (s : State) : Fault → State → Prop
  | ic : FaultsIn f s .malformedIcField s
  | result : FaultsIn f s .illegalResultSelect (afterIc f s)
  | status : FaultsIn f s .illegalStatusSelect (afterIrLoad f s)
  | mapping : FaultsIn f s .unmappedMacroOpcode (afterStatus f s)
  | sequencer {k : Fault} (h : k ∈ sequencerFaults) (a : Nat) : FaultsIn f s k (afterMapping f s a)

/-- Steps 10 to 12 fault in the sequencer, over the state after step 9. -/
theorem backOrders_fault {f : Fields} {s t : State} {k : Fault} {a : Nat} (hs : s.outcome = .running)
    (h : andThen (runOrders f.backOrders (afterMapping f s a)) endCycle = .next t) (hk : t.outcome = .faulted k) :
    k ∈ sequencerFaults ∧ t = ((afterMapping f s a).setOutcome (.faulted k)).setSig Signals.rest := by
  rcases exec_ciOrder_answers f.ci f.bar f.ccen (afterMapping f s a) with ⟨j, hj⟩ | ⟨st, m, _, hm⟩
  · rw [Fields.backOrders, runOrders_cons_of_raise hj, andThen_raise] at h
    cases h
    cases hk
    obtain ⟨u, hu, hrun | ⟨i, hi, hfault⟩⟩ := exec_ciOrder_ends f.ci f.bar f.ccen (afterMapping f s a)
    all_goals cases hj.symm.trans hu
    · cases hrun.trans hs
    · cases hfault
      exact ⟨hi, rfl⟩
  · obtain ⟨u, hu, hrun⟩ := backOrders_complete (f := f) (s := afterMapping f s a) hs ⟨st, m, hm⟩
    cases hu.symm.trans h
    cases hrun.symm.trans hk

/-- Counting the call changes nothing of steps 3 to 9 (R455). -/
theorem afterIrLoad_setCalls (f : Fields) (s : State) (n : Nat) :
    afterIrLoad f (s.setCalls n) = (afterIrLoad f s).setCalls n := rfl

theorem afterStatus_setCalls (f : Fields) (s : State) (n : Nat) :
    afterStatus f (s.setCalls n) = (afterStatus f s).setCalls n := rfl

theorem afterMapping_setCalls (f : Fields) (s : State) (a n : Nat) :
    afterMapping f (s.setCalls n) a = (afterMapping f s a).setCalls n := rfl

/-- A faulting cycle keeps the state in which its fault stands, but for the outcome and the signals (R402). -/
theorem runFields_fault {f : Fields} {s t : State} {k : Fault} (hs : s.outcome = .running)
    (h : runFields f s = .next t) (hk : t.outcome = .faulted k) :
    ∃ u, FaultsIn f s k u ∧ t = (u.setOutcome (.faulted k)).setSig Signals.rest := by
  rw [runFields_eq hs] at h
  split at h
  next =>
    cases h; cases hk
    exact ⟨_, .ic, rfl⟩
  split at h
  next =>
    cases h; cases hk
    exact ⟨_, .result, rfl⟩
  split at h
  next =>
    cases h; cases hk
    exact ⟨_, .status, rfl⟩
  rcases mapStage_afterStatus f s with hmap | ⟨a, _, hmap⟩
  · rw [hmap, andThen_raise] at h
    cases h; cases hk
    exact ⟨_, .mapping, rfl⟩
  · rw [hmap, andThen_running (s := afterMapping f s a) hs] at h
    obtain ⟨hmem, ht⟩ := backOrders_fault hs h hk
    exact ⟨_, .sequencer hmem a, ht⟩

end Sys2Proof.Machine

namespace Sys2Proof

open Machine Reference

/-! ## The statements -/

/-- Settles O36: a completed cycle keeps the result and the flags of its start state, and masking turns the three sums
into word arithmetic. -/
theorem carryInIsThePreviousMicroCarry : Obligations.CarryInIsThePreviousMicroCarry := by
  refine ⟨fun s t f h => ?values, fun s f => ⟨fun hop => ?add, fun hop => ?subr, fun hop => ?subs, fun hop w => ?other⟩⟩
  case values =>
    obtain ⟨_, a, st, m, _, _, rfl⟩ := h.shape
    exact ⟨reg_of_regs_eq_regsAfter_same rfl, fun h1 => if_pos h1, fun hm => if_pos hm, fun hM => if_pos hM⟩
  case add =>
    rw [resultF_eq, hop, ← ofNat_carry]
    change mask16 (asInt (inputR f s) + asInt (inputS f s) + _) = _
    rw [mask16_add, mask16_add, mask16_asInt, mask16_asInt, mask16_natCast]
  case subr =>
    rw [resultF_eq, hop, ← ofNat_carry]
    exact mask16_difference _ _ _
  case subs =>
    rw [resultF_eq, hop, ← ofNat_carry]
    exact mask16_difference _ _ _
  case other =>
    have hraw := rawOf_setUS hop s w
    exact ⟨congrArg mask16 hraw, congrArg flagBits hraw⟩

/-- Settles O38: routing comes after the IC action, and step 6, step 7 and the memory write take the routed bus. -/
theorem routingOverridesTheIcWrite : Obligations.RoutingOverridesTheIcWrite := by
  refine ⟨fun s t f h => ?completed, fun s f => ⟨fun h2 => ?passA, fun h2 => ?result, fun h2 hds hop => ?passD⟩⟩
  case completed =>
    obtain ⟨_, a, st, m, _, _, rfl⟩ := h.shape
    refine ⟨fun hy => abusRouted_of_set hy, fun hy hw => ?dbus, fun hy h8 => ?pc, fun hy hir => ?ir⟩
    case dbus => exact (afterCycle_write s st m hw).2.trans (dbusRouted_of_set hy)
    case pc =>
      change pcAfter f s = _
      rw [pcAfter, h8]
      exact dbusRouted_of_set hy
    case ir => exact (if_pos hir).trans (dbusRouted_of_set hy)
  case passA => exact if_pos (by rw [h2]; rfl)
  case result => exact outputY_of_ne h2 s
  case passD =>
    have h4 : f.ic.toNat = 4 ↔ f.ic = 4 := BitVec.toNat_inj (x := f.ic) (y := 4)
    rw [outputY_of_ne h2, resultF_of_pass hds hop, inputD]
    simp only [h4]

/-- Settles O35: the fault of step 4 keeps the state after step 3, which has changed no field but the buses and `PC`. -/
theorem illegalResultSelectFaults : Obligations.IllegalResultSelectFaults := by
  refine ⟨fun s i hi => ?rows, fun s f hrun hic hrs => ?step⟩
  case rows =>
    simp only [List.mem_cons, List.not_mem_nil, or_false] at hi
    rcases hi with rfl | rfl | rfl | rfl <;> rfl
  case step =>
    rw [step_of_runsFields hrun, runFields_eq (s := s.setCalls (s.calls + 1)) hrun.1.1, if_neg (not_not.mpr hic),
      if_pos hrs]
    exact ⟨_, rfl, by simp [afterIc]⟩

/-- Settles O58, from the state in which each fault stands. -/
theorem faultKeepsTheEarlierWrites : Obligations.FaultKeepsTheEarlierWrites := by
  refine ⟨fun s hgo hfetch => ?unmapped, fun s t f k hrun hstep hk => ?fields⟩
  case unmapped =>
    rw [step_running hgo.1 hgo.2, cycle_of_unmapped (s := s.setCalls (s.calls + 1)) hfetch]
    rfl
  case fields =>
    rw [step_of_runsFields hrun] at hstep
    obtain ⟨u, hu, rfl⟩ := runFields_fault (s := s.setCalls (s.calls + 1)) hrun.1.1 hstep hk
    cases hu with
    | ic => simp
    | result => simp [afterIc]
    | status =>
      rw [afterIrLoad_setCalls]
      simp [afterIrLoad, afterAlu, afterIc]
    | mapping =>
      rw [afterStatus_setCalls]
      simp [afterStatus, afterIrLoad, afterAlu]
    | sequencer hmem a =>
      rw [afterMapping_setCalls]
      simp only [sequencerFaults, List.mem_cons, List.not_mem_nil, or_false] at hmem
      rcases hmem with rfl | rfl | rfl <;> simp [afterMapping, afterStatus, afterIrLoad, afterAlu]

end Sys2Proof
end

section
/-! SUPPORT. The statement on the two definitions of the cycle: the pseudocode of Reference.lean passes through the same
states as the rows, stage by stage. -/

namespace Sys2Proof.Machine

open Reference

/-! ## Stages one after the other -/

/-- What comes next matters on running states only (R401). -/
theorem andThen_congr {o : Result} {k l : State → Result} (h : ∀ s, s.outcome = .running → k s = l s) :
    andThen o k = andThen o l := by
  cases o with
  | next s =>
    rw [andThen_next, andThen_next]
    split
    next hs => exact h s hs
    next => rfl
  | fault r => rfl
  | refused r => rfl

/-- A fault ends both of two stages, however they are grouped. -/
theorem andThen_assoc (o : Result) (k l : State → Result) :
    andThen (andThen o k) l = andThen o fun s => andThen (k s) l := by
  cases o with
  | next s =>
    rw [andThen_next, andThen_next]
    split
    next => rfl
    next hs => exact andThen_ended hs l
  | fault r => rfl
  | refused r => rfl

/-! ## Steps 11 and 12 -/

/-- Steps 11 and 12 drop the signals (log 2). -/
theorem finish_setSig (mwe : Bool) (s : State) (g : Signals) : finish mwe (s.setSig g) = finish mwe s := by
  cases mwe <;> rfl

/-- The memory row and the end of the cycle are steps 11 and 12 (R338, R339). -/
theorem runOrders_mweOrder (mwe : Bool) {s : State} (hs : s.outcome = .running) :
    andThen (runOrders [mweOrder mwe] s) endCycle = finish mwe s := by
  rw [runOrders_cons_of_next (exec_mweOrder mwe s) hs, runOrders_nil, andThen_running (by simpa using hs)]
  cases mwe <;> rfl

/-! ## The pseudocode of step 10, by the value of `ci` -/

section Sequence

variable {f : Fields} {c : Bool} (a : Nat) (s : State)

theorem sequence_of_reset (h : f.ci = 0) :
    Reference.sequence f c a s = finish f.mwe ((s.setStack []).setMic 0) := by
  simp only [Reference.sequence, h]
  rfl

theorem sequence_of_jmap (h : f.ci = 2) : Reference.sequence f c a s = finish f.mwe (s.setMic a) := by
  simp only [Reference.sequence, h]
  rfl

theorem sequence_of_cont (h : f.ci = 14) : Reference.sequence f c a s = finish f.mwe (s.setMic (s.mic + 1)) := by
  simp only [Reference.sequence, h]
  rfl

/-- A full stack faults (R283; more than five entries count as full too, log 10). -/
theorem sequence_of_push (h : f.ci = 4) : Reference.sequence f c a s =
    if 5 ≤ s.stack.length then stop .stackOverflow s
    else finish f.mwe ((s.setStack (s.stack ++ [f.bar.toNat])).setMic (s.mic + 1)) := by
  simp [Reference.sequence, h]
  rfl

/-- The four conditional instructions go on at `mic + 1` where `cond` holds (R285). -/
theorem sequence_of_pass (h : f.ci = 1 ∨ f.ci = 3 ∨ f.ci = 10 ∨ f.ci = 11) (hc : (f.ccen && !c) = true) :
    Reference.sequence f c a s = finish f.mwe (s.setMic (s.mic + 1)) := by
  rcases h with h | h | h | h <;> simp only [Reference.sequence, h, hc] <;> rfl

theorem sequence_of_jump (h : f.ci = 3) (hc : (f.ccen && !c) = false) :
    Reference.sequence f c a s = finish f.mwe (s.setMic f.bar.toNat) := by
  simp only [Reference.sequence, h, hc]
  rfl

theorem sequence_of_call (h : f.ci = 1) (hc : (f.ccen && !c) = false) : Reference.sequence f c a s =
    if 5 ≤ s.stack.length then stop .stackOverflow s
    else finish f.mwe ((s.setStack (s.stack ++ [s.mic + 1])).setMic f.bar.toNat) := by
  simp [Reference.sequence, h, hc]
  rfl

theorem sequence_of_pop_empty (h : f.ci = 10 ∨ f.ci = 11) (hc : (f.ccen && !c) = false) (hst : s.stack = []) :
    Reference.sequence f c a s = stop .stackUnderflow s := by
  rcases h with h | h <;> simp [Reference.sequence, h, hc, hst]

theorem sequence_of_pop (h : f.ci = 10 ∨ f.ci = 11) (hc : (f.ccen && !c) = false) {rest : List Nat} {v : Nat}
    (hst : s.stack = rest ++ [v]) : Reference.sequence f c a s =
      finish f.mwe ((s.setStack rest).setMic (if f.ci = 10 then v else f.bar.toNat)) := by
  rcases h with h | h <;> simp [Reference.sequence, h, hc, hst] <;> rfl

theorem sequence_of_invalid (h : f.ci ∈ ([5, 6, 7, 8, 9, 12, 13, 15] : List (BitVec 4))) :
    Reference.sequence f c a s = stop .invalidControllerInstruction s := by
  simp only [List.mem_cons, List.not_mem_nil, or_false] at h
  rcases h with h | h | h | h | h | h | h | h <;> simp only [Reference.sequence, h] <;> rfl

end Sequence

/-! ## The rows of steps 10 to 12 -/

section Rows

variable {f : Fields} {s : State} (hs : s.outcome = .running) (g : Signals)

include hs

/-- A move of the sequencer is followed by steps 11 and 12, which drop the signals. -/
theorem andThen_move_finish (st : List Nat) (m : Nat) : andThen (.next ((s.setStack st).setMic m)) (finish f.mwe) =
    finish f.mwe (((s.setSig g).setStack st).setMic m) :=
  (andThen_running (by simpa using hs) _).trans (finish_setSig _ _ g).symm

theorem andThen_push_finish (v m : Nat) : andThen (pushAndGo v m s) (finish f.mwe) =
    if 5 ≤ s.stack.length then stop .stackOverflow (s.setSig g)
    else finish f.mwe (((s.setSig g).setStack (s.stack ++ [v])).setMic m) := by
  rcases pushAndGo_cases v m s with ⟨hfull, h⟩ | ⟨hroom, h⟩
  · rw [h, andThen_raise]
    exact (if_pos hfull).symm
  · rw [h, andThen_move_finish hs g]
    exact (if_neg (Nat.not_le.mpr hroom)).symm

theorem andThen_pop_finish {target : Nat → Nat} (hci : f.ci = 10 ∨ f.ci = 11) (hc : condHolds f.ccen s = false)
    (htarget : ∀ v, target v = if f.ci = 10 then v else f.bar.toNat) :
    andThen (popAndGo target s) (finish f.mwe) = Reference.sequence f s.sig.cbit s.sig.mapped (s.setSig g) := by
  rcases popAndGo_cases target s with ⟨hst, h⟩ | ⟨rest, v, hst, h⟩
  · rw [h, andThen_raise, sequence_of_pop_empty _ (s.setSig g) hci hc hst]
    rfl
  · rw [h, andThen_move_finish hs g, sequence_of_pop _ (s.setSig g) hci hc hst, htarget]

theorem andThen_conditional_finish {o : Result} (hci : f.ci = 1 ∨ f.ci = 3 ∨ f.ci = 10 ∨ f.ci = 11)
    (ho : condHolds f.ccen s = false →
      andThen o (finish f.mwe) = Reference.sequence f s.sig.cbit s.sig.mapped (s.setSig g)) :
    andThen (if condHolds f.ccen s then goOn s else o) (finish f.mwe) =
      Reference.sequence f s.sig.cbit s.sig.mapped (s.setSig g) := by
  cases hc : condHolds f.ccen s
  case false => exact ho hc
  case true => exact (andThen_move_finish hs g s.stack _).trans (sequence_of_pass _ (s.setSig g) hci hc).symm

/-- The row of `ci`, with steps 11 and 12 after it, is the pseudocode of step 10 (R282 to R296). -/
theorem exec_ciOrder_finish : andThen (exec (ciOrder f.ci f.bar f.ccen) s) (finish f.mwe) =
    Reference.sequence f s.sig.cbit s.sig.mapped (s.setSig g) := by
  rcases ci_cases f.ci with h | h | h | h | h | h | h | h | h
  · rw [h]
    exact (andThen_move_finish hs g [] 0).trans (sequence_of_reset _ (s.setSig g) h).symm
  · rw [h]
    exact andThen_conditional_finish hs g (.inl h) fun hc =>
      (andThen_push_finish hs g _ _).trans (sequence_of_call _ (s.setSig g) h hc).symm
  · rw [h]
    exact (andThen_move_finish hs g s.stack _).trans (sequence_of_jmap _ (s.setSig g) h).symm
  · rw [h]
    exact andThen_conditional_finish hs g (.inr (.inl h)) fun hc =>
      (andThen_move_finish hs g s.stack _).trans (sequence_of_jump _ (s.setSig g) h hc).symm
  · rw [h]
    exact (andThen_push_finish hs g _ _).trans (sequence_of_push _ (s.setSig g) h).symm
  · rw [h]
    exact andThen_conditional_finish hs g (.inr (.inr (.inl h))) fun hc =>
      andThen_pop_finish hs g (.inl h) hc fun _ => (if_pos h).symm
  · rw [h]
    exact andThen_conditional_finish hs g (.inr (.inr (.inr h))) fun hc =>
      andThen_pop_finish hs g (.inr h) hc fun _ => (if_neg (by rw [h]; decide)).symm
  · rw [h]
    exact (andThen_move_finish hs g s.stack _).trans (sequence_of_cont _ (s.setSig g) h).symm
  · rw [exec_ciOrder_invalid h, andThen_raise, sequence_of_invalid _ (s.setSig g) h]
    rfl

/-- The rows of steps 10 to 12 are their pseudocode. -/
theorem backOrders_eq_sequence : andThen (runOrders f.backOrders s) endCycle =
    Reference.sequence f s.sig.cbit s.sig.mapped (s.setSig g) := by
  rw [← exec_ciOrder_finish hs g, Fields.backOrders, runOrders_cons, andThen_assoc]
  exact andThen_congr fun u hu => runOrders_mweOrder f.mwe hu

end Rows

/-! ## The pseudocode of steps 3 to 9 -/

/-- More than one bit of `ic` is set exactly when its value is not one of the five legal ones (R323). -/
theorem one_lt_popcount4_iff (v : BitVec 4) : 1 < popcount4 v ↔ v.toNat ∉ [0, 1, 2, 4, 8] := by
  revert v; decide

/-! ### Conditional updates -/

section ConditionalUpdates

variable {c : Prop} [Decidable c] {s : State}

theorem ite_setAbus (v : Word) : (if c then s.setAbus v else s) = s.setAbus (if c then v else s.abus) := by
  split <;> rfl

theorem ite_setDbus (v : Word) : (if c then s.setDbus v else s) = s.setDbus (if c then v else s.dbus) := by
  split <;> rfl

theorem ite_setPc (v : Word) : (if c then s.setPc v else s) = s.setPc (if c then v else s.pc) := by
  split <;> rfl

theorem ite_setIr (v : Word) : (if c then s.setIr v else s) = s.setIr (if c then v else s.ir) := by
  split <;> rfl

theorem ite_setMS (v : Status) : (if c then s.setMS v else s) = s.setMS (if c then v else s.mS) := by
  split <;> rfl

theorem ite_setUS (v : Status) : (if c then s.setUS v else s) = s.setUS (if c then v else s.uS) := by
  split <;> rfl

end ConditionalUpdates

/-- The pseudocode of step 3 (R324 to R327). -/
theorem icAction_eq (f : Fields) (s : State) :
    (if f.ic.toNat = 1 then s.setAbus s.pc else if f.ic.toNat = 2 then s.setPc (s.pc + 1)
      else if f.ic.toNat = 4 then s.setDbus s.pc else s) = afterIc f s := by
  unfold afterIc
  split
  next h => simp only [h]; rfl
  split
  next h => simp only [h]; rfl
  split <;> rfl

/-- The pseudocode of the ALU's write (R200 to R203). -/
theorem aluWrite_eq (rs : Nat) (i : RegIx) (v : Word) (s : State) :
    (if rs = 1 then s.setAcc v else if rs = 2 ∨ rs = 3 then s.setReg i v else s) =
      (s.setRegs (if rs = 2 ∨ rs = 3 then (s.setReg i v).regs else s.regs)).setAcc (if rs = 1 then v else s.acc) := by
  by_cases h1 : rs = 1
  · subst h1; rfl
  · rw [if_neg h1, if_neg h1]
    split <;> rfl

/-- `PC` takes the routed data bus where `ic` = 1000, which the pseudocode tests after the increment (R326, R333). -/
theorem pcAfter_eq (f : Fields) (s : State) :
    (if f.ic.toNat = 8 then dbusRouted f s else if f.ic.toNat = 2 then s.pc + 1 else s.pc) = pcAfter f s := by
  unfold pcAfter
  by_cases h8 : f.ic.toNat = 8
  · rw [if_pos h8, if_neg (by omega), if_pos h8]
  · rw [if_neg h8, if_neg h8]

/-- The pseudocode of steps 5 to 7 (R332 to R334). -/
theorem routing_eq (f : Fields) (s : State) :
    (let u := (afterAlu f s).setSig s.sig
     let u := if f.yMux.getLsbD 0 then u.setAbus (outputY f s) else u
     let u := if f.yMux.getLsbD 1 then u.setDbus (outputY f s) else u
     let u := if f.ic.toNat = 8 then u.setPc u.dbus else u
     if f.ir then u.setIr u.dbus else u) = (afterIrLoad f s).setSig s.sig := by
  dsimp only
  rw [ite_setAbus, ite_setDbus, ite_setPc, ite_setIr]
  exact congrArg (fun pc => ((((afterAlu f s).setAbus (abusRouted f s)).setDbus (dbusRouted f s)).setPc pc).setIr
    (irAfter f s) |>.setSig s.sig) (pcAfter_eq f s)

/-- The pseudocode of the latches of step 8 (R254, R255). -/
theorem latches_eq (f : Fields) (s : State) :
    (let u := (afterIrLoad f s).setSig s.sig
     let u := if f.srMacro then u.setMS (flagsNow f s) else u
     if f.srMicro then u.setUS (flagsNow f s) else u) = (afterStatus f s).setSig s.sig := by
  dsimp only
  rw [ite_setMS, ite_setUS]
  rfl

/-- Once the opcode is mapped, the rows that remain are the pseudocode of step 10 (R337). -/
theorem andThen_afterMapping (f : Fields) {s : State} (hs : s.outcome = .running) (a : Nat) :
    andThen (.next (afterMapping f s a)) (fun u => andThen (runOrders f.backOrders u) endCycle) =
      Reference.sequence f (conditionBit f.sel.toNat f.cop.toNat s.uS s.mS) a ((afterStatus f s).setSig s.sig) :=
  (andThen_running (s := afterMapping f s a) hs _).trans (backOrders_eq_sequence (s := afterMapping f s a) hs s.sig)

/-- The pseudocode of steps 3 to 12 is the run of the rows: each state that it names is the state after that stage, but
for the signals, which the pseudocode does not have. -/
theorem fieldsCycle_eq (f : Fields) {s : State} (hs : s.outcome = .running) : fieldsCycle f s = runFields f s := by
  rw [runFields_eq hs]
  unfold fieldsCycle
  extract_lets ic s3 ia ib d ds op rs xa xb cin raw fOut flags y s4 s5 s5' s6 s7 sel cop cbit s8' s8 opcode
  have h3 : s3 = afterIc f s := icAction_eq f s
  clear_value s3; subst h3
  have h4 : s4 = (afterAlu f s).setSig s.sig := aluWrite_eq _ _ _ _
  clear_value s4; subst h4
  have h7 : s7 = (afterIrLoad f s).setSig s.sig := routing_eq f s
  clear_value s7; subst h7
  have h8 : s8 = (afterStatus f s).setSig s.sig := latches_eq f s
  clear_value s8; subst h8
  by_cases hic : f.ic.toNat ∉ [0, 1, 2, 4, 8]
  case pos => exact (if_pos ((one_lt_popcount4_iff _).mpr hic)).trans (if_pos hic).symm
  rw [if_neg (fun h => hic ((one_lt_popcount4_iff _).mp h)), if_neg hic]
  by_cases hrs : 4 ≤ f.rs.toNat
  case pos => exact (if_pos hrs).trans (if_pos hrs).symm
  rw [if_neg hrs]
  refine (if_neg hrs).trans ?_
  by_cases hsel : f.sel.toNat = 3
  case pos => exact (if_pos hsel).trans (if_pos hsel).symm
  rw [if_neg hsel]
  refine (if_neg hsel).trans ?_
  rw [mapStage_eq]
  rcases mapOpcode_cases (afterStatus f s) with ⟨h0, hmap⟩ | ⟨h0, hnone, hmap⟩ | ⟨a, h0, ha, hmap⟩
  · rw [hmap]
    exact (if_pos h0).trans (andThen_afterMapping f hs 0).symm
  · have hprom : ((afterStatus f s).setSig s.sig).prom.read opcode = none := hnone
    rw [hmap, andThen_raise, hprom]
    exact if_neg h0
  · have hprom : ((afterStatus f s).setSig s.sig).prom.read opcode = some a := ha
    rw [hmap, hprom]
    exact (if_neg h0).trans (andThen_afterMapping f hs a.toNat).symm

/-! ## The pseudocode of a call -/

theorem referenceCycle_of_unmapped {s : State} (h : fetchWord s = none) :
    Reference.cycle s = raise .unmappedMicroAddress s := by
  rw [fetchWord] at h
  simp only [Reference.cycle, h]
  rfl

theorem referenceCycle_of_haltWord {s : State} (h : fetchWord s = some Config.haltWord) :
    Reference.cycle s = .next (s.setOutcome .halted) := by
  rw [fetchWord] at h
  simp only [Reference.cycle, h]
  exact if_pos ((eq_haltWord_iff _).mp rfl)

theorem referenceCycle_of_ne {s : State} {w : ControlWord} (h : fetchWord s = some w) (hw : w ≠ Config.haltWord) :
    Reference.cycle s = fieldsCycle (extractFields w) s := by
  rw [fetchWord] at h
  simp only [Reference.cycle, h]
  exact if_neg (mt (eq_haltWord_iff w).mpr hw)

end Sys2Proof.Machine

namespace Sys2Proof

open Machine

/-! ## The statement -/

/-- Settles O9: the fetch is the same, and on a word's fields the pseudocode passes through the states of the rows. -/
theorem cycleRefinesThePseudocode : Obligations.CycleRefinesThePseudocode := by
  intro s hs
  cases hfetch : fetchWord s with
  | none => rw [cycle_of_unmapped hfetch, referenceCycle_of_unmapped hfetch]
  | some w =>
    rcases decodeWord_cases w with ⟨rfl, _⟩ | ⟨hw, hd⟩
    · rw [cycle_of_haltWord hfetch, referenceCycle_of_haltWord hfetch]
    · rw [cycle_of_fields hfetch hd, referenceCycle_of_ne hfetch hw, fieldsCycle_eq _ hs]

end Sys2Proof
end

section
/-! SUPPORT. The statements on the status unit: the rows of its source, condition and latches, and in a completed cycle
the two latched registers and the path of a conditional instruction. -/

namespace Sys2Proof.Machine

open Reference

/-! ## The rows of the condition -/

/-- The bits of a row of `cop` hold the value of that row (R246 to R252). -/
theorem copOrder_rowFields {i : Instr} (h : i.family = .cop) : copOrder i.rowFields.cop = i := by
  cases i <;> cases h <;> rfl

/-- Every value of `cop` has a row in its family (R252). -/
theorem family_copOrder (v : BitVec 6) : (copOrder v).family = .cop := by
  revert v; decide

/-- The test of a `cop` by its six tested values (R246 to R252). -/
theorem conditionTest_toNat (v : BitVec 6) (c z : Bool) :
    conditionTest v.toNat c z =
      if v = 0x04 then !z else if v = 0x05 then z else if v = 0x0A then !c else if v = 0x0B then c
      else if v = 0x0C then (!c && !z) else if v = 0x0D then (c || z) else false := by
  simp only [conditionTest, BitVec.toNat_eq]
  rfl

/-! ## The latches of a completed cycle -/

/-- A completed cycle latches its flags in `uS` with `srm` = 1 only (R255). -/
theorem Completes.uS_eq {s t : State} {f : Fields} (h : Completes s t f) :
    t.uS = if f.srMicro then flagsNow f s else s.uS := by
  obtain ⟨_, a, st, m, _, _, rfl⟩ := h.shape
  rfl

/-- A completed cycle latches its flags in `MS` with `srM` = 1 only (R254). -/
theorem Completes.mS_eq {s t : State} {f : Fields} (h : Completes s t f) :
    t.mS = if f.srMacro then flagsNow f s else s.mS := by
  obtain ⟨_, a, st, m, _, _, rfl⟩ := h.shape
  rfl

/-- The flags of a cycle come from the data path alone: not from the status unit's fields, nor from the store that the
word was fetched from (R199). -/
theorem flagsNow_statusFields (f : Fields) (sscu : BitVec 12) (ccen srMacro srMicro : Bool) (s : State)
    (store : ControlStore) :
    flagsNow { f with sscu := sscu, ccen := ccen, srMacro := srMacro, srMicro := srMicro } (s.setStore store) =
      flagsNow f s := rfl

/-! ## The path of a conditional instruction -/

/-- In a completed cycle the sequencer moves by the condition of the status at the start of the cycle (R253, R282). -/
theorem Completes.sequencerMove {s t : State} {f : Fields} (h : Completes s t f) :
    ∃ a, SequencerMove f.ci f.bar (condOf f s) a s.mic s.stack t.stack t.mic := by
  obtain ⟨_, a, st, m, _, hmove, rfl⟩ := h.shape
  exact ⟨a, hmove⟩

section Conditional

variable {ci : BitVec 4} {bar : BitVec 12} {cond : Bool} {mapped mic m : Nat} {stack st : List Nat}

/-- Where `cond` holds a conditional instruction goes on at `mic + 1` (R285). -/
theorem SequencerMove.eq_of_pass (hmove : SequencerMove ci bar cond mapped mic stack st m)
    (hci : ci.toNat ∈ [1, 3, 10, 11]) (hcond : cond = true) : m = mic + 1 ∧ st = stack := by
  cases hmove with
  | pass => exact ⟨rfl, rfl⟩
  | reset h | jmap h | cont h | push h => exact absurd hci (by rw [h]; decide)
  | jump _ hc | call _ hc | ret _ hc | popJump _ hc => cases hcond.symm.trans hc

/-- Where `cond` does not hold CJP jumps, CJS calls, CRTN returns, and CJPP drops the top entry and jumps (R287, R289,
R291, R292). -/
theorem SequencerMove.branch_cases (hmove : SequencerMove ci bar cond mapped mic stack st m)
    (hci : ci.toNat ∈ [1, 3, 10, 11]) (hcond : cond = false) :
    (ci = 3 ∧ m = bar.toNat ∧ st = stack) ∨ (ci = 1 ∧ m = bar.toNat ∧ st = stack ++ [mic + 1]) ∨
      (ci = 10 ∧ stack = st ++ [m]) ∨ (ci = 11 ∧ m = bar.toNat ∧ ∃ v, stack = st ++ [v]) := by
  cases hmove with
  | jump h => exact .inl ⟨h, rfl, rfl⟩
  | call h => exact .inr (.inl ⟨h, rfl, rfl⟩)
  | ret h _ _ _ hv => exact .inr (.inr (.inl ⟨h, hv⟩))
  | popJump h _ _ v hv => exact .inr (.inr (.inr ⟨h, rfl, v, hv⟩))
  | reset h | jmap h | cont h | push h => exact absurd hci (by rw [h]; decide)
  | pass _ hc => cases hcond.symm.trans hc

end Conditional

end Sys2Proof.Machine

namespace Sys2Proof

open Machine Reference

/-! ## The statements -/

/-- Settles O40: the row of each `cop` latches its test of the source's C and Z bits. -/
theorem conditionRows : Obligations.ConditionRows := by
  refine ⟨fun s => ⟨rfl, rfl, rfl⟩, fun i => ⟨fun h => ?row, ?family⟩, fun s v hsrc => ?none, fun s v w hsrc => ?some⟩
  case row => exact ⟨i.rowFields.cop, copOrder_rowFields h⟩
  case family =>
    rintro ⟨v, rfl⟩
    exact family_copOrder v
  case none => rw [exec_copOrder, latchCondition_none _ hsrc]
  case some =>
    rw [exec_copOrder, latchCondition_some _ hsrc, conditionTest_toNat]
    rfl

/-- Settles O41: the fault of step 8 keeps the state after step 7, which has latched neither status register. -/
theorem illegalStatusSelectFaults : Obligations.IllegalStatusSelectFaults := by
  refine ⟨fun f => ⟨rfl, rfl⟩, fun s => rfl, fun s f hrun hic hrs hsel => ?step⟩
  rw [step_of_runsFields hrun, runFields_eq (s := s.setCalls (s.calls + 1)) hrun.1.1, if_neg (not_not.mpr hic),
    if_neg (by omega), if_pos (by rw [hsel]; rfl)]
  exact ⟨_, rfl, rfl, rfl, rfl⟩

/-- Settles O42: each register is latched by its own field, and the flags do not depend on the status unit's fields. -/
theorem statusLatches : Obligations.StatusLatches := by
  refine ⟨fun s => ⟨rfl, rfl⟩, fun s t f h => ⟨fun hM => ?keepMacro, fun hm => ?keepMicro, fun hM hm => ?both⟩,
    fun s s' t t' f g h h' hs hg => ?alike⟩
  case keepMacro => rw [h.mS_eq, hM]; rfl
  case keepMicro => rw [h.uS_eq, hm]; rfl
  case both => rw [h.mS_eq, h.uS_eq, if_pos hM, if_pos hm]
  case alike =>
    have hflags : flagsNow g s' = flagsNow f s := by
      rw [hs, hg]
      exact flagsNow_statusFields f ..
    refine ⟨fun hf hlatch => ?_, fun hf hlatch => ?_⟩
    · rw [h'.uS_eq, h.uS_eq, if_pos hf, if_pos hlatch, hflags]
    · rw [h'.mS_eq, h.mS_eq, if_pos hf, if_pos hlatch, hflags]

/-- Settles O43: the sequencer moves by `cond`, which is a function of the state that the cycle starts in. -/
theorem conditionReadsTheOldStatus : Obligations.ConditionReadsTheOldStatus := by
  refine ⟨fun s t f h hci => ⟨fun hcond => ?pass, fun hcond => ?branch⟩, fun s f hccen => ⟨fun hcop hsel => ?microZ,
    fun hcop hsel => ?macroZ, fun hsel => ?noSource⟩⟩
  case pass =>
    obtain ⟨a, hmove⟩ := h.sequencerMove
    exact hmove.eq_of_pass hci hcond
  case branch =>
    obtain ⟨a, hmove⟩ := h.sequencerMove
    rcases hmove.branch_cases hci hcond with ⟨hv, hto⟩ | ⟨hv, hto⟩ | ⟨hv, hto⟩ | ⟨hv, hto⟩ <;> simp [hv, hto]
  case microZ => rw [condOf, hccen, hcop, hsel]; rfl
  case macroZ => rw [condOf, hccen, hcop, hsel]; rfl
  case noSource => rw [condOf, hccen, hsel]; rfl

end Sys2Proof
end

section
/-! SUPPORT. The statements on the sequencer (43_sequencer.md): the two paths of a conditional instruction, the push and
the pop where they succeed and where they fault, and the one fault that a cycle reports. -/

namespace Sys2Proof.Machine

open Reference

/-! ## The paths of step 10 -/

section Paths

variable {ccen : Bool} {s : State}

/-- A conditional instruction branches in the three other rows of R282's table. -/
theorem condHolds_eq_false_iff : condHolds ccen s = false ↔ ¬ (ccen = true ∧ s.sig.cbit = false) := by
  rw [← condHolds_iff, Bool.not_eq_true]

/-- Where `cond` holds a conditional instruction goes on at `mic + 1`, whatever its branch would do (R285). -/
theorem conditional_of_pass (h : ccen = true ∧ s.sig.cbit = false) (branch : Result) :
    (if condHolds ccen s then goOn s else branch) = .next (s.setMic (s.mic + 1)) :=
  if_pos ((condHolds_iff ccen s).mpr h)

theorem conditional_of_branch (h : condHolds ccen s = false) (branch : Result) :
    (if condHolds ccen s then goOn s else branch) = branch :=
  if_neg (Bool.eq_false_iff.mp h)

theorem pushAndGo_of_room (room : s.stack.length < Config.stackDepth) (v target : Nat) :
    pushAndGo v target s = .next ((s.setStack (s.stack ++ [v])).setMic target) :=
  if_neg (Nat.not_le.mpr room)

theorem pushAndGo_of_full (full : Config.stackDepth ≤ s.stack.length) (v target : Nat) :
    pushAndGo v target s = raise .stackOverflow s :=
  if_pos full

theorem popAndGo_of_entry {rest : List Nat} {v : Nat} (hstack : s.stack = rest ++ [v]) (target : Nat → Nat) :
    popAndGo target s = .next ((s.setStack rest).setMic (target v)) := by
  simp [popAndGo, hstack, goTo]

theorem popAndGo_of_empty (hstack : s.stack = []) (target : Nat → Nat) :
    popAndGo target s = raise .stackUnderflow s := by
  simp [popAndGo, hstack]

end Paths

/-- JMAP goes to the mapped address (R288). -/
theorem SequencerMove.eq_of_jmap {bar : BitVec 12} {cond : Bool} {mapped mic m : Nat} {stack st : List Nat}
    (hmove : SequencerMove 2 bar cond mapped mic stack st m) : st = stack ∧ m = mapped := by
  cases hmove with
  | jmap => exact ⟨rfl, rfl⟩
  | reset h | cont h | push h | pass h | jump h | call h | ret h | popJump h => exact absurd h (by decide)

/-! ## The faults of step 10 -/

section SequencerFaults

variable {ci : BitVec 4} {bar : BitVec 12} {ccen : Bool} {s : State}

/-- PUSH and the branch of CJS fault on a full stack (R283). -/
theorem exec_ciOrder_overflow (hci : ci.toNat = 4 ∨ (ci.toNat = 1 ∧ condHolds ccen s = false))
    (full : Config.stackDepth ≤ s.stack.length) : exec (ciOrder ci bar ccen) s = raise .stackOverflow s := by
  rcases hci with h | ⟨h, hc⟩
  · obtain rfl : ci = 4 := BitVec.eq_of_toNat_eq h
    exact pushAndGo_of_full full _ _
  · obtain rfl : ci = 1 := BitVec.eq_of_toNat_eq h
    exact (conditional_of_branch hc _).trans (pushAndGo_of_full full _ _)

/-- The branches of CRTN and CJPP fault on an empty stack (R284). -/
theorem exec_ciOrder_underflow (hci : ci.toNat ∈ [10, 11]) (hc : condHolds ccen s = false) (hstack : s.stack = []) :
    exec (ciOrder ci bar ccen) s = raise .stackUnderflow s := by
  rcases List.mem_pair.mp hci with h | h
  · obtain rfl : ci = 10 := BitVec.eq_of_toNat_eq h
    exact (conditional_of_branch hc _).trans (popAndGo_of_empty hstack _)
  · obtain rfl : ci = 11 := BitVec.eq_of_toNat_eq h
    exact (conditional_of_branch hc _).trans (popAndGo_of_empty hstack _)

end SequencerFaults

/-! ## The fault that a step reports -/

section Reported

variable {s : State} {f : Fields}

/-- With legal fields a cycle comes to step 9 (R336). -/
theorem runFields_of_reachesMapping (hs : s.outcome = .running) (hlegal : reachesMapping f) :
    runFields f s =
      andThen (mapStage (afterStatus f s)) fun u => andThen (runOrders f.backOrders u) endCycle := by
  obtain ⟨hic, hrs, hsel⟩ := hlegal
  rw [runFields_eq hs, if_neg (not_not.mpr hic), if_neg (Nat.not_le.mpr hrs), if_neg hsel]

/-- Step 9 faults on an opcode that is neither 0 nor in the table, in `IR` as step 7 left it (R336). -/
theorem mapStage_of_not_opcodeIsMapped (h : ¬ opcodeIsMapped f s) :
    mapStage (afterStatus f s) = raise .unmappedMacroOpcode (afterStatus f s) := by
  rcases mapStage_afterStatus f s with hmap | ⟨a, ha, _⟩
  · exact hmap
  · cases ha with
    | zero h0 => exact absurd (.inl h0) h
    | entry _ a ha => exact absurd (.inr ⟨a, ha⟩) h

/-- A fault of step 10 ends the cycle once steps 3 to 9 have raised none (R403). -/
theorem runFields_of_sequencer_raise {k : Fault} (hs : s.outcome = .running) (hlegal : reachesMapping f)
    (hmapped : opcodeIsMapped f s)
    (hci : ∀ a, exec (ciOrder f.ci f.bar f.ccen) (afterMapping f s a) = raise k (afterMapping f s a)) :
    ∃ u, runFields f s = raise k u := by
  obtain ⟨a, hmap⟩ := mapStage_of_opcodeIsMapped hmapped
  have hback : runOrders f.backOrders (afterMapping f s a) = raise k (afterMapping f s a) :=
    runOrders_cons_of_raise (hci a)
  refine ⟨afterMapping f s a, ?_⟩
  rw [runFields_of_reachesMapping hs hlegal, hmap, andThen_running (s := afterMapping f s a) hs, hback, andThen_raise]

/-- A step reports the fault that its cycle raises, after the call is counted (R401, R455). -/
theorem faulted_of_runFields {k : Fault} {u : State} (hrun : runsFields s f)
    (h : runFields f (s.setCalls (s.calls + 1)) = raise k u) : ∃ t, step s = .next t ∧ t.outcome = .faulted k :=
  ⟨_, (step_of_runsFields hrun).trans h, rfl⟩

end Reported

end Sys2Proof.Machine

namespace Sys2Proof

open Machine Reference

/-! ## The statements -/

/-- Settles O23: each clause denies the checks before its own, so its own is the one that the cycle comes to. -/
theorem faultPriorityFollowsTheSteps : Obligations.FaultPriorityFollowsTheSteps := by
  intro s hgo
  have hs : (s.setCalls (s.calls + 1)).outcome = .running := hgo.1
  refine ⟨fun hfetch => ?unmapped, fun f hrun => ⟨fun hic => ?ic, fun hic hrs => ?result, fun hic hrs hsel => ?status,
    fun hlegal hmapped => ?opcode, fun hlegal hmapped => ?sequencer⟩⟩
  case unmapped =>
    rw [step_running hgo.1 hgo.2, cycle_of_unmapped (s := s.setCalls (s.calls + 1)) hfetch]
    exact ⟨_, rfl, rfl⟩
  case ic =>
    apply faulted_of_runFields hrun
    rw [runFields_eq hs, if_pos hic]
  case result =>
    apply faulted_of_runFields hrun
    rw [runFields_eq hs, if_neg (not_not.mpr hic), if_pos hrs]
  case status =>
    apply faulted_of_runFields hrun
    rw [runFields_eq hs, if_neg (not_not.mpr hic), if_neg (Nat.not_le.mpr hrs), if_pos hsel]
  case opcode =>
    apply faulted_of_runFields hrun
    rw [runFields_of_reachesMapping hs hlegal, mapStage_of_not_opcodeIsMapped (s := s.setCalls (s.calls + 1)) hmapped,
      andThen_raise]
  case sequencer =>
    have hinvalid : ∀ v : BitVec 4, v.toNat ∈ [5, 6, 7, 8, 9, 12, 13, 15] →
        v ∈ ([5, 6, 7, 8, 9, 12, 13, 15] : List (BitVec 4)) := by decide
    refine ⟨fun hci => ?_, fun hci hfull => ?_, fun hci hcond hempty => ?_⟩
    · obtain ⟨u, hu⟩ := runFields_of_sequencer_raise hs hlegal hmapped fun _ =>
        exec_ciOrder_invalid (hinvalid _ hci) _ _ _
      exact faulted_of_runFields hrun hu
    · obtain ⟨u, hu⟩ := runFields_of_sequencer_raise hs hlegal hmapped fun _ => exec_ciOrder_overflow hci hfull.ge
      exact faulted_of_runFields hrun hu
    · obtain ⟨u, hu⟩ := runFields_of_sequencer_raise hs hlegal hmapped fun _ =>
        exec_ciOrder_underflow hci hcond hempty
      exact faulted_of_runFields hrun hu

/-- Settles O39: step 9 maps the opcode of `IR` after step 7, and JMAP goes to what it was mapped to. -/
theorem irLoadIsDispatchedAtOnce : Obligations.IrLoadIsDispatchedAtOnce := by
  intro s t f h hir hci
  obtain ⟨_, a, st, m, ha, hmove, rfl⟩ := h.shape
  rw [hci] at hmove
  obtain ⟨_, rfl⟩ := hmove.eq_of_jmap
  refine ⟨fun hy h4 => ?loaded, fun h0 => ?zero, fun hne => ?entry⟩
  case loaded =>
    calc irAfter f s = dbusRouted f s := if_pos hir
      _ = s.dbus := (dbusRouted_of_clear hy).trans (if_neg h4)
  case zero =>
    cases ha with
    | zero => rfl
    | entry hne => exact absurd h0 hne
  case entry =>
    cases ha with
    | zero h0 => exact absurd h0 hne
    | entry _ a ha => exact ⟨a, ha, rfl⟩

/-- Settles O50, by the path taken and the room on the stack. -/
theorem callAndPushRows : Obligations.CallAndPushRows := by
  refine fun bar ccen s => ⟨fun hpass => ?pass, fun hbranch room => ?call, fun hbranch hfull => ?callFull,
    fun room => ?push, fun hfull => ?pushFull⟩
  case pass => exact conditional_of_pass hpass _
  case call => exact (conditional_of_branch (condHolds_eq_false_iff.mpr hbranch) _).trans (pushAndGo_of_room room _ _)
  case callFull =>
    exact (conditional_of_branch (condHolds_eq_false_iff.mpr hbranch) _).trans (pushAndGo_of_full hfull.ge _ _)
  case push => exact pushAndGo_of_room room _ _
  case pushFull => exact pushAndGo_of_full hfull.ge _ _

/-- Settles O51, by the path taken and whether the stack has an entry. -/
theorem returnAndPopRows : Obligations.ReturnAndPopRows := by
  refine fun bar ccen s => ⟨fun hpass => ⟨conditional_of_pass hpass _, conditional_of_pass hpass _⟩,
    fun rest v hbranch hstack => ?entry, fun hbranch hstack => ?empty⟩
  all_goals have hc := condHolds_eq_false_iff.mpr hbranch
  case entry =>
    exact ⟨(conditional_of_branch hc _).trans (popAndGo_of_entry hstack _),
      (conditional_of_branch hc _).trans (popAndGo_of_entry hstack _)⟩
  case empty =>
    exact ⟨(conditional_of_branch hc _).trans (popAndGo_of_empty hstack _),
      (conditional_of_branch hc _).trans (popAndGo_of_empty hstack _)⟩

/-- Settles O52: the stack that the push left ends in the pushed entry, and the rows of CRTN pop that one. -/
theorem callThenReturn : Obligations.CallThenReturn := by
  intro bar s t u room hu
  have unconditional (s : State) : ¬ (false = true ∧ s.sig.cbit = false) := fun h => nomatch h.1
  obtain ⟨_, hcall, _, hpush, _⟩ := callAndPushRows bar false s
  obtain ⟨_, hreturn, _⟩ := returnAndPopRows bar false u
  refine ⟨fun h => ?call, fun h => ?push⟩
  case call =>
    cases (hcall (unconditional s) room).symm.trans h
    exact (hreturn _ _ (unconditional u) hu).1
  case push =>
    cases (hpush room).symm.trans h
    exact (hreturn _ _ (unconditional u) hu).1

/-- Settles O47: RESET writes the stack and `mic`. -/
theorem resetRow : Obligations.ResetRow := fun _ => rfl

/-- Settles O48: JMAP and CONT write `mic`. -/
theorem jmapAndContRows : Obligations.JmapAndContRows := fun _ => ⟨rfl, rfl⟩

/-- Settles O49: the sequential path is the same for the four rows, and CJP's branch is its jump. -/
theorem conditionalJumpRow : Obligations.ConditionalJumpRow := by
  refine fun bar ccen s => ⟨fun hpass => ?pass, fun hbranch => ?jump⟩
  case pass =>
    exact ⟨conditional_of_pass hpass _, conditional_of_pass hpass _, conditional_of_pass hpass _,
      conditional_of_pass hpass _⟩
  case jump => exact conditional_of_branch (condHolds_eq_false_iff.mpr hbranch) _

/-- Settles O53: the eight rows are the rows of the invalid values, and those fault. -/
theorem invalidControllerFaults : Obligations.InvalidControllerFaults := by
  refine ⟨fun s i hi => ?fault, fun bar ccen => rfl⟩
  have hrow : ∃ v ∈ ([5, 6, 7, 8, 9, 12, 13, 15] : List (BitVec 4)), ciOrder v 0 false = i := List.mem_map.mp hi
  obtain ⟨v, hv, rfl⟩ := hrow
  exact exec_ciOrder_invalid hv 0 false s

end Sys2Proof
end

section
/-! SUPPORT. The statements on the course of a microcycle (44_cycle.md): its rows in their order, the halt sentinel, the
IC action, and the faults of steps 3 and 9. -/

namespace Sys2Proof.Machine

open Reference

/-! ## The rows of steps 3 to 8, by family -/

@[simp] theorem family_aMuxOrder (b : Bool) (ra : RegIx) : (aMuxOrder b ra).family = .aMux := by cases b <;> rfl
@[simp] theorem family_bMuxOrder (b : Bool) (rb : RegIx) : (bMuxOrder b rb).family = .bMux := by cases b <;> rfl
@[simp] theorem family_kMuxOrder (b : Bool) (k : Word) : (kMuxOrder b k).family = .kMux := by cases b <;> rfl
@[simp] theorem family_dsOrder (v : BitVec 3) : (dsOrder v).family = .ds := by revert v; decide
@[simp] theorem family_opOrder (v : BitVec 3) : (opOrder v).family = .op := by revert v; decide
@[simp] theorem family_rsOrder (v : BitVec 3) : (rsOrder v).family = .rs := by revert v; decide
@[simp] theorem family_selOrder (v : BitVec 2) : (selOrder v).family = .sel := by revert v; decide

/-- A row of a family that no row of a list has does not stand in the list. -/
theorem not_mem_of_family {l : List Instr} {i : Instr} (h : i.family ∉ l.map Instr.family) : i ∉ l :=
  fun hi => h (List.mem_map_of_mem hi)

/-- The rows of step 4 (R329 to R331). -/
def aluOrders (f : Fields) : List Instr :=
  [aMuxOrder f.aMux f.raAddr, bMuxOrder f.bMux f.rbAddr, kMuxOrder f.kMux f.constant, dsOrder f.ds, opOrder f.op,
    rsOrder f.rs]

/-- The rows of steps 7 and 8 (R334, R242 to R255). -/
def irAndStatusOrders (f : Fields) : List Instr :=
  (if f.ir then [.irLoad] else []) ++ [selOrder f.sel, copOrder f.cop, .sscuUnread f.unread]
    ++ (if f.srMacro then [.srMacroLatch] else []) ++ (if f.srMicro then [.srMicroLatch] else [])

theorem families_aluOrders (f : Fields) :
    (aluOrders f).map Instr.family = [.aMux, .bMux, .kMux, .ds, .op, .rs] := by
  simp [aluOrders]

theorem families_irAndStatusOrders (f : Fields) :
    (irAndStatusOrders f).map Instr.family =
      (if f.ir then [.ir] else []) ++ [.sel, .cop, .unread] ++ (if f.srMacro then [.srMacro] else [])
        ++ (if f.srMicro then [.srMicro] else []) := by
  simp only [irAndStatusOrders, List.map_append, apply_ite (List.map Instr.family), List.map_cons, List.map_nil,
    family_selOrder, family_copOrder]
  rfl

/-- Step 4 holds no row of the IC action, and no IR load. -/
theorem not_mem_aluOrders {i : Instr} (f : Fields) (h : i.family = .ic ∨ i.family = .ir) : i ∉ aluOrders f := by
  apply not_mem_of_family
  rw [families_aluOrders]
  rcases h with h | h <;> simp [h]

/-- Steps 7 and 8 hold no row of the IC action. -/
theorem not_mem_irAndStatusOrders {i : Instr} (f : Fields) (h : i.family = .ic) : i ∉ irAndStatusOrders f := by
  apply not_mem_of_family
  rw [families_irAndStatusOrders]
  simp [h]

/-- Every `ic` but 1000 has its row first (R324 to R327). -/
theorem frontOrders_of_ne_pcDbus {f : Fields} (h : f.ic ≠ 8) :
    f.frontOrders = icOrder f.ic :: (aluOrders f ++ yMuxOrder f.yMux :: irAndStatusOrders f) := by
  rw [Fields.frontOrders, if_neg h, if_neg h]
  simp [aluOrders, irAndStatusOrders]

/-- `ic` = 1000 has its row between the routing and the IR load (R328, R333). -/
theorem frontOrders_of_pcDbus {f : Fields} (h : f.ic = 8) :
    f.frontOrders = aluOrders f ++ [yMuxOrder f.yMux, .icPcDbus] ++ irAndStatusOrders f := by
  have hrow : icOrder f.ic = .icPcDbus := by rw [h]; rfl
  rw [Fields.frontOrders, if_pos h, if_pos h, hrow]
  simp [aluOrders, irAndStatusOrders]

/-! ## The unmapped opcode -/

section Unmapped

variable {s : State} {f : Fields}

/-- Without an IR load step 9 maps the opcode that the cycle starts with (R334). -/
theorem irAfter_of_keep (h : f.ir = false) : irAfter f s = s.ir := if_neg (by rw [h]; nofun)

/-- An IR load takes `DBUS` as the cycle starts with it, where neither routing nor the IC action wrote it (R334). -/
theorem irAfter_of_load (h : f.ir = true) (hy : f.yMux.getLsbD 1 = false) (h4 : f.ic.toNat ≠ 4) :
    irAfter f s = s.dbus :=
  calc irAfter f s = dbusRouted f s := if_pos h
    _ = s.dbus := (dbusRouted_of_clear hy).trans (if_neg h4)

/-- The word that step 7 leaves in `IR` is unmapped where its opcode is neither 0 nor in the table (R336). -/
theorem not_opcodeIsMapped_of_irAfter {w : Word} (hir : irAfter f s = w) (h0 : w.extractLsb' 8 8 ≠ 0)
    (hnone : s.prom.read (w.extractLsb' 8 8) = none) : ¬ opcodeIsMapped f s := by
  subst hir
  rintro (hz | ⟨a, ha⟩)
  · exact h0 hz
  · cases hnone.symm.trans ha

/-- With legal fields and an unmapped opcode a step ends in the fault of step 9, in the state after step 8 (R336, R402). -/
theorem step_of_not_opcodeIsMapped (hrun : runsFields s f) (hlegal : reachesMapping f) (h : ¬ opcodeIsMapped f s) :
    step s = raise .unmappedMacroOpcode (afterStatus f (s.setCalls (s.calls + 1))) := by
  rw [step_of_runsFields hrun, runFields_of_reachesMapping (s := s.setCalls (s.calls + 1)) hrun.1.1 hlegal,
    mapStage_of_not_opcodeIsMapped (s := s.setCalls (s.calls + 1)) h, andThen_raise]

end Unmapped

end Sys2Proof.Machine

namespace Sys2Proof

open Machine Reference

/-! ## The statements -/

/-- Settles O25: the eleven rows are the rows of the values with more than one bit, and step 3 checks the value first. -/
theorem malformedIcFaults : Obligations.MalformedIcFaults := by
  refine ⟨fun s i hi => ?rows, fun s f hrun hic => ?step⟩
  case rows =>
    have hrow : ∃ v : BitVec 4, v.toNat ∉ [0, 1, 2, 4, 8] ∧ icOrder v = i := by
      revert i; decide
    obtain ⟨v, hv, rfl⟩ := hrow
    exact exec_icOrder_malformed hv s
  case step =>
    rw [step_of_runsFields hrun, runFields_eq (s := s.setCalls (s.calls + 1)) hrun.1.1, if_pos hic]
    rfl

/-- Settles O46: the opcode mapping decides, on the word that a 16-bit row presents or that step 7 left in `IR`. -/
theorem unmappedMacroOpcodeFaults : Obligations.UnmappedMacroOpcodeFaults := by
  have unmapped (s : State) (f : Fields) (hrun : runsFields s f) (hlegal : reachesMapping f)
      (h : ¬ opcodeIsMapped f s) : ∃ t, step s = .next t ∧ t.outcome = .faulted .unmappedMacroOpcode ∧
        t.ir = irAfter f s ∧ t.mic = s.mic :=
    ⟨_, step_of_not_opcodeIsMapped hrun hlegal h, rfl, rfl, rfl⟩
  refine ⟨fun i w s he h0 hnone => ?row, unmapped, fun s f hrun hlegal hir h0 hnone => ?kept,
    fun s f hrun hlegal hir hy h4 h0 hnone => ?loaded⟩
  case row =>
    rw [exec_of_encode_macroWord he]
    rcases mapOpcode_cases (s.setIr w) with ⟨hz, _⟩ | ⟨_, _, h⟩ | ⟨a, _, ha, _⟩
    · exact absurd hz h0
    · exact h
    · cases hnone.symm.trans ha
  case kept =>
    have hkeep : irAfter f s = s.ir := irAfter_of_keep hir
    exact hkeep ▸ unmapped s f hrun hlegal (not_opcodeIsMapped_of_irAfter hkeep h0 hnone)
  case loaded =>
    have hload : irAfter f s = s.dbus := irAfter_of_load hir hy h4
    exact hload ▸ unmapped s f hrun hlegal (not_opcodeIsMapped_of_irAfter hload h0 hnone)

/-- Settles O8: a counted call decodes the fetched word, and the row in `IR` is the opcode mapping. -/
theorem stepRunsTheDecodedInstruction : Obligations.StepRunsTheDecodedInstruction := by
  refine ⟨fun s w hgo hfetch => ⟨fun hd => ?halt, fun f hd => ?fields⟩, fun i rest s t h => ?rows, fun i s hd => ?mapped⟩
  case halt =>
    obtain rfl := (decodeWord_eq_halt_iff w).mp hd
    rw [step_running hgo.1 hgo.2]
    exact cycle_of_haltWord (s := s.setCalls (s.calls + 1)) hfetch
  case fields =>
    have hrun : runsFields s f := ⟨hgo, by rw [hfetch, Option.map_some, hd]⟩
    exact step_of_runsFields hrun
  case rows => rw [runOrders_cons, h, andThen_next]
  case mapped =>
    calc mapStage s = mapOpcode s := mapStage_eq s
      _ = exec i s := (exec_of_decodeMacro hd s).symm

/-- Settles O21: the fetched sentinel is the halt word, and its row writes the outcome. -/
theorem haltSentinelEndsTheRun : Obligations.HaltSentinelEndsTheRun := by
  refine ⟨fun s => rfl, fun s hgo hfetch => ?_⟩
  rw [step_running hgo.1 hgo.2]
  exact cycle_of_haltWord (s := s.setCalls (s.calls + 1)) hfetch

/-- Settles O24: each row writes its one field, and only the row of `ic` = 1000 waits for the routing. -/
theorem icActionRows : Obligations.IcActionRows := by
  refine ⟨fun s => ⟨rfl, rfl, ?increment, rfl, rfl⟩, fun f h => ⟨_, frontOrders_of_ne_pcDbus h⟩,
    fun f h => ⟨_, _, frontOrders_of_pcDbus h, not_mem_aluOrders f (.inr rfl), fun hi => ?once⟩⟩
  case increment =>
    have hsum : s.pc + 1 = BitVec.ofNat 16 (s.pc.toNat + 1) := BitVec.eq_of_toNat_eq (by simp)
    exact congrArg (fun v => Host.Outcome.next (s.setPc v)) hsum
  case once =>
    rcases List.mem_append.mp hi with hi | hi
    · exact not_mem_aluOrders f (.inl rfl) hi
    · exact not_mem_irAndStatusOrders f rfl hi

end Sys2Proof
end

section
/-! SUPPORT. The statement on the end of the run loop (70_reset_and_hazards.md): every turn of a running machine counts a
call or ends the run, and so the calls left below the ceiling run out. -/

namespace Sys2Proof.Machine

/-- Steps 3 to 12 answer a next state: a fault is an outcome of the state they leave (R401). -/
theorem CycleEnd.exists_next {f : Fields} {s : State} {o : Result} (h : CycleEnd f s o) : ∃ t, o = .next t := by
  cases h with
  | fault => exact ⟨_, rfl⟩
  | complete => exact ⟨_, rfl⟩

/-- A call of `cycle()` on a running machine answers a next state (R320 to R322). -/
theorem exists_cycle_next {s : State} (hs : s.outcome = .running) : ∃ t, cycle s = .next t := by
  cases hw : fetchWord s with
  | none => exact ⟨_, cycle_of_unmapped hw⟩
  | some w =>
    rcases decodeWord_cases w with ⟨rfl, _⟩ | ⟨_, hd⟩
    · exact ⟨_, cycle_of_haltWord hw⟩
    · rw [cycle_of_fields hw hd]
      exact (runFields_end hs).exists_next

/-- Below its ceiling a machine takes a step, and the step brings it one call nearer to the ceiling (R455). -/
theorem exists_step_of_goesOn {s : State} (h : goesOn s) :
    ∃ t, step s = .next t ∧ t.calls = s.calls + 1 ∧ t.stepLimit = s.stepLimit := by
  obtain ⟨t, ht⟩ := exists_cycle_next (s := s.setCalls (s.calls + 1)) h.1
  have hstep : step s = .next t := (step_running h.1 h.2).trans ht
  obtain ⟨hcalls, _, _⟩ := completedCycleCounts s t h hstep
  obtain ⟨_, _, hlimit⟩ := (stepEnd_of_step hstep).config
  exact ⟨t, hstep, hcalls, hlimit⟩

/-! ## The run loop -/

/-- The loop leaves an ended machine as it is (R43). -/
theorem runSteps_of_ended {s : State} (h : s.outcome ≠ .running) (n : Nat) : runSteps n s = s := by
  cases n with
  | zero => rfl
  | succ n => exact if_neg h

/-- The loop goes on from the state that a running machine's step answers (R455). -/
theorem runSteps_succ_of_step {s t : State} (hrun : s.outcome = .running) (h : step s = .next t) (n : Nat) :
    runSteps (n + 1) s = runSteps n t := by
  rw [runSteps, if_pos hrun, h]

/-- The loop ends within one turn more than the calls that are left below the ceiling. -/
theorem runSteps_ends (n : Nat) {s : State} (hn : s.stepLimit - s.calls < n) : (runSteps n s).outcome ≠ .running := by
  induction n generalizing s with
  | zero => exact absurd hn (Nat.not_lt_zero _)
  | succ n ih =>
    by_cases hrun : s.outcome = .running
    case neg => rwa [runSteps_of_ended hrun]
    by_cases hl : s.stepLimit ≤ s.calls
    case pos =>
      rw [runSteps_succ_of_step hrun (step_ceiling hrun hl), runSteps_of_ended (by simp)]
      simp
    case neg =>
      obtain ⟨t, hstep, hcalls, hlimit⟩ := exists_step_of_goesOn ⟨hrun, Nat.lt_of_not_le hl⟩
      rw [runSteps_succ_of_step hrun hstep]
      exact ih (by omega)

/-- What a run from `s` keeps: the step limit, calls within it (or no more than `s` began with), and the outcome
`StepLimitExceeded` only where the calls have reached it (R456). -/
structure WithinCeiling (s u : State) : Prop where
  stepLimit : u.stepLimit = s.stepLimit
  calls : u.calls ≤ max s.calls s.stepLimit
  spent : u.outcome = .stepLimitExceeded → s.stepLimit ≤ u.calls

/-- A machine that goes on has a call left for the step it takes. -/
theorem WithinCeiling.succ_le_of_goesOn {s u : State} (h : WithinCeiling s u) (hgo : goesOn u) :
    u.calls + 1 ≤ max s.calls s.stepLimit :=
  calc u.calls + 1 ≤ u.stepLimit := hgo.2
    _ = s.stepLimit := h.stepLimit
    _ ≤ max s.calls s.stepLimit := le_max_right _ _

/-- Each of the five ends of a step stays within the ceiling, and only the ceiling's own sets its outcome. -/
theorem WithinCeiling.of_stepEnd {s u t : State} (h : WithinCeiling s u) (hend : StepEnd u t) : WithinCeiling s t := by
  obtain ⟨_, _, hkept⟩ := hend.config
  have hlimit : t.stepLimit = s.stepLimit := hkept.trans h.stepLimit
  cases hend with
  | rest => exact h
  | ceiling _ hl => exact ⟨hlimit, h.calls, fun _ => h.stepLimit.symm.trans_le hl⟩
  | halt hgo => exact ⟨hlimit, h.succ_le_of_goesOn hgo, nofun⟩
  | fault hgo _ _ hu => exact ⟨hlimit, hu.config.calls.trans_le (h.succ_le_of_goesOn hgo), nofun⟩
  | complete f hf => exact ⟨hlimit, h.succ_le_of_goesOn hf.1, fun ht => by cases hf.1.1.symm.trans ht⟩

theorem run_withinCeiling {s : State} (hs : s.outcome = .running) : WithinCeiling s (run s) :=
  runSteps_induction (P := WithinCeiling s) (fun _ _ hu _ h => hu.of_stepEnd (stepEnd_of_step h)) _
    ⟨rfl, le_max_left _ _, by simp [hs]⟩

end Sys2Proof.Machine

namespace Sys2Proof

open Machine

/-! ## The statements -/

/-- Settles O15: the run has one turn more than the calls left below the ceiling; each turn but the last spends a call. -/
theorem runAlwaysEnds : Obligations.RunAlwaysEnds := by
  intro s
  have hends : (run s).outcome ≠ .running := runSteps_ends _ (Nat.lt_succ_self _)
  by_cases hs : s.outcome = .running
  case pos =>
    have hrun := run_withinCeiling hs
    exact ⟨hends, hrun.calls, fun _ => hrun.spent⟩
  case neg =>
    have hrest : run s = s := runSteps_of_ended hs _
    exact ⟨hends, hrest.symm ▸ le_max_left _ _, fun h => absurd h hs⟩

end Sys2Proof
end
